-- ==== Sys2Proof/Word.lean ====
section
/-! DEFINITION. The word types of PXA and the four-lane group of words. -/

namespace Sys2Proof

/-- One byte. -/
abbrev Byte := BitVec 8

/-- One 32-bit register: every PXA register is 32 bits wide (00_scope.md R7). -/
abbrev Word := BitVec 32

/-- A binary64 bit pattern, `{K1, K0}` of a context (20_memory.md R72). -/
abbrev DWord := BitVec 64

/-- A lane number 0..3 (00_scope.md R11: "one of the four 32-bit slots of A, B or R"). -/
abbrev LaneIx := Fin 4

/-- The four lanes of A, of B or of R (00_scope.md R10). -/
structure Lanes where
  l0 : Word
  l1 : Word
  l2 : Word
  l3 : Word
deriving DecidableEq, Repr, Inhabited

end Sys2Proof
end

