-- ==== Sys2Proof/Machine/Float.lean ====
section
/-! DEFINITION. IEEE 754 binary32 and binary64 values and their arithmetic, exact and then rounded once to nearest, ties to
even (00_scope.md R9). A finite value is held as its sign and its magnitude counted in units of the format's smallest
subnormal, so that every sum and product is exact integer arithmetic. Subnormals are kept, there are no exception flags,
and there is one NaN (92 D18, D19). -/

namespace Sys2Proof.Machine

/-- A binary format: the widths of its exponent and fraction fields, and the exponent of its unit, the smallest
subnormal being 2^-unitExp. -/
structure FloatFmt where
  expBits : Nat
  fracBits : Nat
  unitExp : Nat
deriving DecidableEq, Repr

/-- binary32 -/
def b32 : FloatFmt := { expBits := 8, fracBits := 23, unitExp := 149 }

/-- binary64 -/
def b64 : FloatFmt := { expBits := 11, fracBits := 52, unitExp := 1074 }

/-- A floating-point value: `fin neg mag` is (-1)^neg · mag · 2^-unitExp, so that +0 and -0 are two values. -/
inductive FVal where
  | nan
  | inf (neg : Bool)
  | fin (neg : Bool) (mag : Nat)
deriving DecidableEq, Repr

/-- The value of a bit pattern. -/
def decodeFloat (f : FloatFmt) (w : Nat) : FVal :=
  let neg := w / 2 ^ (f.expBits + f.fracBits) % 2 == 1
  let ex := w / 2 ^ f.fracBits % 2 ^ f.expBits
  let fr := w % 2 ^ f.fracBits
  if ex = 2 ^ f.expBits - 1 then (if fr = 0 then .inf neg else .nan)
  else if ex = 0 then .fin neg fr
  else .fin neg ((2 ^ f.fracBits + fr) * 2 ^ (ex - 1))

/-- The sign bit of a bit pattern. -/
def signBit (f : FloatFmt) (neg : Bool) : Nat := if neg then 2 ^ (f.expBits + f.fracBits) else 0

/-- The bit pattern of a magnitude below the overflow limit; the fraction shifted in overlaps the exponent field by the
leading bit, so a subnormal needs no case of its own. -/
def magBits (f : FloatFmt) (mag : Nat) : Nat :=
  let sh := mag.log2 - f.fracBits
  sh * 2 ^ f.fracBits + mag / 2 ^ sh

/-- The bit pattern of a value; a NaN is the canonical quiet NaN (00_scope.md R9 `canon`: 0x7FC00000 for binary32). -/
def encodeFloat (f : FloatFmt) : FVal → Nat
  | .nan => (2 ^ f.expBits - 1) * 2 ^ f.fracBits + 2 ^ (f.fracBits - 1)
  | .inf neg => signBit f neg + (2 ^ f.expBits - 1) * 2 ^ f.fracBits
  | .fin neg mag => signBit f neg + magBits f mag

/-- The representable magnitude nearest to num/den units, ties to the even one, as if the exponent had no upper end.
Above 2^(fracBits+1) units the representable magnitudes are the multiples of 2^sh. -/
def roundMag (f : FloatFmt) (num den : Nat) : Nat :=
  let sh := (num / den).log2 - f.fracBits
  let d := den * 2 ^ sh
  let q := num / d
  let r := num % d
  (if d < 2 * r ∨ (2 * r = d ∧ q % 2 = 1) then q + 1 else q) * 2 ^ sh

/-- The first magnitude that is too large for the format. -/
def overflowMag (f : FloatFmt) : Nat := 2 ^ (2 ^ f.expBits + f.fracBits - 2)

/-- `rn` of the real (-1)^neg · num/den units (00_scope.md R9 rn32, rn64). -/
def roundReal (f : FloatFmt) (neg : Bool) (num den : Nat) : FVal :=
  if overflowMag f ≤ roundMag f num den then .inf neg else .fin neg (roundMag f num den)

/-- a * b, rounded. -/
def fmul (f : FloatFmt) : FVal → FVal → FVal
  | .nan, _ => .nan
  | _, .nan => .nan
  | .inf n, .inf n' => .inf (n != n')
  | .inf n, .fin n' m => if m = 0 then .nan else .inf (n != n')
  | .fin n m, .inf n' => if m = 0 then .nan else .inf (n != n')
  | .fin n m, .fin n' m' => roundReal f (n != n') (m * m') (2 ^ f.unitExp)

/-- a + b, rounded; an exact zero sum of unlike signs is +0. -/
def fadd (f : FloatFmt) : FVal → FVal → FVal
  | .nan, _ => .nan
  | _, .nan => .nan
  | .inf n, .inf n' => if n = n' then .inf n else .nan
  | .inf n, .fin _ _ => .inf n
  | .fin _ _, .inf n => .inf n
  | .fin n m, .fin n' m' =>
    if n = n' then roundReal f n (m + m') 1
    else if m = m' then .fin false 0
    else if m' < m then roundReal f n (m - m') 1
    else roundReal f n' (m' - m) 1

/-- -a -/
def fneg : FVal → FVal
  | .nan => .nan
  | .inf n => .inf (!n)
  | .fin n m => .fin (!n) m

/-- a - b, rounded. -/
def fsub (f : FloatFmt) (a b : FVal) : FVal := fadd f a (fneg b)

/-- a / b, rounded. -/
def fdiv (f : FloatFmt) : FVal → FVal → FVal
  | .nan, _ => .nan
  | _, .nan => .nan
  | .inf _, .inf _ => .nan
  | .inf n, .fin n' _ => .inf (n != n')
  | .fin n _, .inf n' => .fin (n != n') 0
  | .fin n m, .fin n' m' =>
    if m' = 0 then (if m = 0 then .nan else .inf (n != n'))
    else roundReal f (n != n') (m * 2 ^ f.unitExp) m'

/-- 1.0 -/
def fone (f : FloatFmt) : FVal := .fin false (2 ^ f.unitExp)

/-- a == 0.0, true of +0 and -0 (42_color.md R211). -/
def isZero : FVal → Bool
  | .fin _ m => m == 0
  | _ => false

/-- a == 1.0 -/
def isOne (f : FloatFmt) (a : FVal) : Bool := a == fone f

/-- a > 1.0, false of a NaN. -/
def aboveOne (f : FloatFmt) : FVal → Bool
  | .inf false => true
  | .fin false m => 2 ^ f.unitExp < m
  | _ => false

/-- a < 0.0, false of -0 and of a NaN. -/
def belowZero : FVal → Bool
  | .inf true => true
  | .fin true m => m != 0
  | _ => false

/-- A value of one format in another, rounded where it does not fit: exact from binary32 to binary64, rn32 the other way. -/
def fconvert (src dst : FloatFmt) : FVal → FVal
  | .nan => .nan
  | .inf n => .inf n
  | .fin n m => roundReal dst n (m * 2 ^ dst.unitExp) (2 ^ src.unitExp)

/-- f32(b): the binary32 value of a word (00_scope.md R9). -/
def f32 (w : Word) : FVal := decodeFloat b32 w.toNat

/-- canon(bits32(x)): the word of a binary32 value, a NaN as 0x7FC00000 (00_scope.md R9). -/
def canonBits32 (x : FVal) : Word := BitVec.ofNat 32 (encodeFloat b32 x)

/-- f64(b): the binary64 value of 64 bits (00_scope.md R9). -/
def f64 (w : DWord) : FVal := decodeFloat b64 w.toNat

/-- bits64(x), with one NaN pattern. -/
def bits64 (x : FVal) : DWord := BitVec.ofNat 64 (encodeFloat b64 x)

/-- `mulF(a, b)` (40_kernels.md R134). -/
def mulF (a b : FVal) : FVal := fmul b32 a b

/-- `lerpF(p, q, a) = ((1.0 - a) * p) + (a * q)`, each operation rounded, in this order, unfused (R134, 92 D18). -/
def lerpF (p q a : FVal) : FVal :=
  let t1 := fsub b32 (fone b32) a
  let t2 := fmul b32 t1 p
  let t3 := fmul b32 a q
  fadd b32 t2 t3

/-- `prelerpF(p, q, a) = ((1.0 - a) * p) + q`, each operation rounded, in this order (R134). -/
def prelerpF (p q a : FVal) : FVal :=
  let t1 := fsub b32 (fone b32) a
  let t2 := fmul b32 t1 p
  fadd b32 t2 q

/-- `covF(cover) = rn32(cover / 255.0)`, one rounding (R134). -/
def covF (cover : Nat) : FVal := roundReal b32 false (cover * 2 ^ b32.unitExp) 255

/-- `multCoverF(c, cover) = c * covF(cover)` (R134). -/
def multCoverF (c : FVal) (cover : Nat) : FVal := fmul b32 c (covF cover)

end Sys2Proof.Machine
end

