-- ==== Sys2Proof/Machine/SrgbCurve.lean ====
section
/-! DEFINITION. The exact sRGB transfer functions of 41_srgb.md R170 and R171, and the type of the scalar cores that meet R172.
The power laws have rational exponents (2.4 = 12/5), so "y is at most to_linear(x)" is a comparison of integers, and every
value the spec fixes is computed exactly. -/

namespace Sys2Proof.Machine

/-- y ≤ to_linear(x), for y = yn/yd and x = xn/xd not negative (R170): below the threshold 0.04045 the value is
x / 12.92 = 25x/323, above it ((x + 0.055) / 1.055)^(12/5). -/
def leToLinear (yn yd xn xd : Nat) : Bool :=
  if xn * 100000 ≤ 4045 * xd then yn * (323 * xd) ≤ 25 * xn * yd
  else yn ^ 5 * (1055 * xd) ^ 12 ≤ yd ^ 5 * (1000 * xn + 55 * xd) ^ 12

/-- to_linear(x) ≤ y (R170). -/
def geToLinear (yn yd xn xd : Nat) : Bool :=
  if xn * 100000 ≤ 4045 * xd then 25 * xn * yd ≤ yn * (323 * xd)
  else yd ^ 5 * (1000 * xn + 55 * xd) ^ 12 ≤ yn ^ 5 * (1055 * xd) ^ 12

/-- y ≤ to_srgb(x), for y = yn/yd and x = xn/xd not negative (R171): below the threshold 0.0031308 the value is
x * 12.92 = 323x/25, above it 1.055 x^(5/12) - 0.055. -/
def leToSrgb (yn yd xn xd : Nat) : Bool :=
  if xn * 10000000 ≤ 31308 * xd then yn * (25 * xd) ≤ 323 * xn * yd
  else (1000 * yn + 55 * yd) ^ 12 * xd ^ 5 ≤ (1055 * yd) ^ 12 * xn ^ 5

/-- to_srgb(x) ≤ y (R171). -/
def geToSrgb (yn yd xn xd : Nat) : Bool :=
  if xn * 10000000 ≤ 31308 * xd then 323 * xn * yd ≤ yn * (25 * xd)
  else (1055 * yd) ^ 12 * xn ^ 5 ≤ (1000 * yn + 55 * yd) ^ 12 * xd ^ 5

/-- The transfer function a conversion uses (R179: F ∈ {TO_LINEAR64, TO_SRGB64}). -/
inductive Transfer where
  | toLinear | toSrgb
deriving DecidableEq, Repr

/-- y ≤ F(x) -/
def leTransfer : Transfer → Nat → Nat → Nat → Nat → Bool
  | .toLinear => leToLinear
  | .toSrgb => leToSrgb

/-- F(x) ≤ y -/
def geTransfer : Transfer → Nat → Nat → Nat → Nat → Bool
  | .toLinear => geToLinear
  | .toSrgb => geToSrgb

/-- The largest n in [lo, hi) with p n, for a p that holds at lo and, from some n on, no more; fuel at least the number
of halvings of hi - lo. -/
def bisect (p : Nat → Bool) : Nat → Nat → Nat → Nat
  | 0, lo, _ => lo
  | fuel + 1, lo, hi =>
    if hi ≤ lo + 1 then lo
    else if p ((lo + hi) / 2) then bisect p fuel ((lo + hi) / 2) hi
    else bisect p fuel lo ((lo + hi) / 2)

/-! ### What R172 asks of a scalar core on a positive argument -/

/-- R172 (1): the binary64 magnitude k is within 2^-40, relatively, of F at the magnitude m, both in units of 2^-1074. -/
def withinBound (F : Transfer) (m k : Nat) : Bool :=
  leTransfer F (k * 2 ^ 40) ((2 ^ 40 + 1) * 2 ^ b64.unitExp) m (2 ^ b64.unitExp) &&
    geTransfer F (k * 2 ^ 40) ((2 ^ 40 - 1) * 2 ^ b64.unitExp) m (2 ^ b64.unitExp)

/-- F at the magnitude m is in binary64's normal range, 2^-1022 to 2^1024: outside it binary64 need have no value that keeps
the bound of R172 (1). Every positive binary32 argument is inside. Log 8. -/
def InNormalRange (F : Transfer) (m : Nat) : Prop :=
  leTransfer F (2 ^ 52) (2 ^ b64.unitExp) m (2 ^ b64.unitExp) = true ∧
    leTransfer F (2 ^ (1024 + b64.unitExp)) (2 ^ b64.unitExp) m (2 ^ b64.unitExp) = false

/-- F(x) ≤ F(y) for the exact F: every rational that is at most F(x) is at most F(y). For to_linear it follows from x ≤ y;
to_srgb falls by 3·10^-8 at its threshold (90_conflicts.md C3) and rises on either side. -/
def Rises (F : Transfer) (x y : Nat) : Prop :=
  ∀ n d, 0 < d → leTransfer F n d x (2 ^ b64.unitExp) = true → leTransfer F n d y (2 ^ b64.unitExp) = true

/-- The first binary64 pattern that is no positive finite value: +infinity. -/
def infPattern : Nat := 0x7FF0000000000000

/-- The magnitude of a binary64 pattern of a positive finite value. -/
def magOfBits (n : Nat) : Nat :=
  match decodeFloat b64 n with
  | .fin _ m => m
  | _ => 0

/-- The pattern of the largest binary64 value that is at most F(m). -/
def floorPattern (F : Transfer) (m : Nat) : Nat :=
  bisect (fun n => leTransfer F (magOfBits n) (2 ^ b64.unitExp) m (2 ^ b64.unitExp)) 63 0 infPattern

/-- The largest binary64 value that is at most F(m): one core that meets R172, so that there is one. -/
def floorMag (F : Transfer) (m : Nat) : Nat := magOfBits (floorPattern F m)

/-! ### The floor is a core

These lemmas stand here because the type below needs an element. -/

/-- An inequality between powers goes over to a smaller quotient. -/
theorem pow_cross_le (k : Nat) {u d u' d' A B : Nat} (hd : 0 < d) (h : u' * d ≤ u * d') (hle : u ^ k * A ≤ d ^ k * B) :
    u' ^ k * A ≤ d' ^ k * B := by
  refine Nat.le_of_mul_le_mul_left ?_ (Nat.pow_pos (n := k) hd)
  calc d ^ k * (u' ^ k * A) = (u' * d) ^ k * A := by rw [Nat.mul_pow]; ring
    _ ≤ (u * d') ^ k * A := Nat.mul_le_mul_right _ (Nat.pow_le_pow_left h k)
    _ = d' ^ k * (u ^ k * A) := by rw [Nat.mul_pow]; ring
    _ ≤ d' ^ k * (d ^ k * B) := Nat.mul_le_mul_left _ hle
    _ = d ^ k * (d' ^ k * B) := by ring

/-- An inequality between powers goes over to a larger quotient. -/
theorem pow_cross_ge (k : Nat) {u d u' d' A B : Nat} (hd : 0 < d) (h : u * d' ≤ u' * d) (hle : d ^ k * B ≤ u ^ k * A) :
    d' ^ k * B ≤ u' ^ k * A := by
  refine Nat.le_of_mul_le_mul_left ?_ (Nat.pow_pos (n := k) hd)
  calc d ^ k * (d' ^ k * B) = d' ^ k * (d ^ k * B) := by ring
    _ ≤ d' ^ k * (u ^ k * A) := Nat.mul_le_mul_left _ hle
    _ = (u * d') ^ k * A := by rw [Nat.mul_pow]; ring
    _ ≤ (u' * d) ^ k * A := Nat.mul_le_mul_right _ (Nat.pow_le_pow_left h k)
    _ = d ^ k * (u' ^ k * A) := by rw [Nat.mul_pow]; ring

/-- What is at most F(x) bounds everything smaller. -/
theorem leTransfer_of_le {F : Transfer} {n d n' d' xn xd : Nat} (hd : 0 < d) (h : n' * d ≤ n * d')
    (hle : leTransfer F n d xn xd = true) : leTransfer F n' d' xn xd = true := by
  cases F <;> simp only [leTransfer, leToLinear, leToSrgb] at hle ⊢ <;> split at hle <;> rename_i hx <;>
    simp only [hx, if_true, if_false, decide_eq_true_eq] at hle ⊢
  · have := pow_cross_le 1 hd h (A := 323 * xd) (B := 25 * xn) (by simpa [Nat.mul_comm] using hle)
    simpa [Nat.mul_comm] using this
  · exact pow_cross_le 5 hd h hle
  · have := pow_cross_le 1 hd h (A := 25 * xd) (B := 323 * xn) (by simpa [Nat.mul_comm] using hle)
    simpa [Nat.mul_comm] using this
  · have h' : (1000 * n' + 55 * d') * d ≤ (1000 * n + 55 * d) * d' := by nlinarith
    rw [Nat.mul_pow, Nat.mul_comm (1055 ^ 12), Nat.mul_assoc] at hle ⊢
    exact pow_cross_le 12 hd h' hle

/-- What is at least F(x) is exceeded by everything larger. -/
theorem geTransfer_of_ge {F : Transfer} {n d n' d' xn xd : Nat} (hd : 0 < d) (h : n * d' ≤ n' * d)
    (hge : geTransfer F n d xn xd = true) : geTransfer F n' d' xn xd = true := by
  cases F <;> simp only [geTransfer, geToLinear, geToSrgb] at hge ⊢ <;> split at hge <;> rename_i hx <;>
    simp only [hx, if_true, if_false, decide_eq_true_eq] at hge ⊢
  · have := pow_cross_ge 1 hd h (A := 323 * xd) (B := 25 * xn) (by simpa [Nat.mul_comm] using hge)
    simpa [Nat.mul_comm] using this
  · exact pow_cross_ge 5 hd h hge
  · have := pow_cross_ge 1 hd h (A := 25 * xd) (B := 323 * xn) (by simpa [Nat.mul_comm] using hge)
    simpa [Nat.mul_comm] using this
  · have h' : (1000 * n + 55 * d) * d' ≤ (1000 * n' + 55 * d') * d := by nlinarith
    rw [Nat.mul_pow, Nat.mul_comm (1055 ^ 12), Nat.mul_assoc] at hge ⊢
    exact pow_cross_ge 12 hd h' hge

/-- What is not at most F(x) is at least F(x). -/
theorem geTransfer_of_not_le {F : Transfer} {n d xn xd : Nat} (h : leTransfer F n d xn xd = false) :
    geTransfer F n d xn xd = true := by
  cases F <;> simp only [leTransfer, leToLinear, leToSrgb, geTransfer, geToLinear, geToSrgb] at h ⊢ <;> split at h <;>
    rename_i hx <;> simp only [hx, if_true, if_false, decide_eq_true_eq, decide_eq_false_iff_not] at h ⊢ <;>
    exact Nat.le_of_not_le h

/-- What a bisection finds: a place in the interval where p holds and after which it does not. -/
theorem bisect_spec (p : Nat → Bool) : ∀ {fuel lo hi : Nat}, p lo = true → lo < hi → hi - lo ≤ 2 ^ fuel →
    lo ≤ bisect p fuel lo hi ∧ bisect p fuel lo hi < hi ∧ p (bisect p fuel lo hi) = true ∧
      (bisect p fuel lo hi + 1 = hi ∨ p (bisect p fuel lo hi + 1) = false)
  | 0, lo, hi, h, hl, hf => ⟨le_rfl, hl, h, .inl (by simp [bisect] at *; omega)⟩
  | fuel + 1, lo, hi, h, hl, hf => by
    rw [Nat.pow_succ] at hf
    unfold bisect
    split
    · exact ⟨le_rfl, hl, h, .inl (by omega)⟩
    · split
      · rename_i hp
        obtain ⟨h1, h2⟩ := bisect_spec p (fuel := fuel) hp (by omega : (lo + hi) / 2 < hi) (by omega)
        exact ⟨by omega, h2⟩
      · rename_i hp
        obtain ⟨h1, h2, h3, h4⟩ := bisect_spec p (fuel := fuel) h (by omega : lo < (lo + hi) / 2) (by omega)
        refine ⟨h1, by omega, h3, .inr ?_⟩
        rcases h4 with h4 | h4
        · rw [h4]; simpa using hp
        · exact h4

/-- The magnitude by the exponent and the fraction field. -/
theorem magOfBits_eq {n : Nat} (h : n < infPattern) :
    magOfBits n = if n < 2 ^ 52 then n else (2 ^ 52 + n % 2 ^ 52) * 2 ^ (n / 2 ^ 52 - 1) := by
  have h1 : n / 2 ^ 52 % 2 ^ 11 = n / 2 ^ 52 := by simp only [infPattern] at h; omega
  have h2 : n / 2 ^ 52 ≠ 2 ^ 11 - 1 := by simp only [infPattern] at h; omega
  have h3 : n / 2 ^ 52 = 0 ↔ n < 2 ^ 52 := by omega
  simp only [magOfBits, decodeFloat, b64, h1, h2, h3, if_false]
  by_cases hn : n < 2 ^ 52
  · simp only [hn, if_true]; omega
  · simp only [hn, if_false]

/-- Each binary64 value is the next one's predecessor, by at most its 2^-52nd part where it is normal. -/
theorem magOfBits_succ {n : Nat} (h : n + 1 < infPattern) : magOfBits n ≤ magOfBits (n + 1) ∧
    (2 ^ 52 ≤ n → 2 ^ 52 * magOfBits (n + 1) ≤ (2 ^ 52 + 1) * magOfBits n) := by
  rw [magOfBits_eq (by omega), magOfBits_eq h]
  by_cases hn : n < 2 ^ 52
  · refine ⟨?_, fun h => absurd h (by omega)⟩
    by_cases hn' : n + 1 < 2 ^ 52
    · rw [if_pos hn, if_pos hn']; omega
    · rw [if_pos hn, if_neg hn', show n + 1 = 2 ^ 52 by omega]; norm_num; omega
  · have hn' : ¬ n + 1 < 2 ^ 52 := by omega
    simp only [hn, hn', if_false]
    by_cases hr : n % 2 ^ 52 + 1 < 2 ^ 52
    · have e1 : (n + 1) / 2 ^ 52 = n / 2 ^ 52 := by omega
      have e2 : (n + 1) % 2 ^ 52 = n % 2 ^ 52 + 1 := by omega
      rw [e1, e2]
      refine ⟨Nat.mul_le_mul_right _ (by omega), fun _ => ?_⟩
      rw [← Nat.mul_assoc, ← Nat.mul_assoc]
      exact Nat.mul_le_mul_right _ (by omega)
    · have e1 : (n + 1) / 2 ^ 52 - 1 = n / 2 ^ 52 - 1 + 1 := by omega
      have e2 : (n + 1) % 2 ^ 52 = 0 := by omega
      rw [e1, e2, show n % 2 ^ 52 = 2 ^ 52 - 1 by omega, pow_succ 2 (n / 2 ^ 52 - 1)]
      generalize 2 ^ (n / 2 ^ 52 - 1) = e
      exact ⟨by omega, fun _ => by omega⟩

/-- A larger pattern is a larger value. -/
theorem magOfBits_mono {a b : Nat} (hb : b < infPattern) (h : a ≤ b) : magOfBits a ≤ magOfBits b := by
  induction b with
  | zero => rw [Nat.le_zero.1 h]
  | succ b ih =>
    rcases Nat.lt_or_eq_of_le h with h | rfl
    · exact (ih (by omega) (by omega)).trans (magOfBits_succ hb).1
    · rfl

/-- 0 is at most F(m). -/
theorem leTransfer_zero (F : Transfer) (d xn xd : Nat) : leTransfer F 0 d xn xd = true := by
  cases F <;> simp only [leTransfer, leToLinear, leToSrgb] <;> split <;> rename_i hx <;>
    simp only [decide_eq_true_eq, Nat.mul_zero, Nat.zero_mul, Nat.zero_le, Nat.zero_add, ne_eq, OfNat.ofNat_ne_zero,
      not_false_eq_true, zero_pow]
  have h5 := Nat.pow_le_pow_left (Nat.le_of_not_le hx) 5
  rw [Nat.mul_pow, Nat.mul_pow] at h5
  rw [Nat.mul_pow 55, Nat.mul_pow 1055]
  calc 55 ^ 12 * d ^ 12 * xd ^ 5 = d ^ 12 * (55 ^ 12 * xd ^ 5) := by ring
    _ ≤ d ^ 12 * (1055 ^ 12 * xn ^ 5) := Nat.mul_le_mul_left _ (by omega)
    _ = 1055 ^ 12 * d ^ 12 * xn ^ 5 := by ring

/-- What the floor is: a binary64 value at most F(m), the next one being none or larger than F(m). -/
theorem floorPattern_spec (F : Transfer) (m : Nat) : floorPattern F m < infPattern ∧
    leTransfer F (magOfBits (floorPattern F m)) (2 ^ b64.unitExp) m (2 ^ b64.unitExp) = true ∧
    (floorPattern F m + 1 = infPattern ∨
      leTransfer F (magOfBits (floorPattern F m + 1)) (2 ^ b64.unitExp) m (2 ^ b64.unitExp) = false) := by
  have h0 : magOfBits 0 = 0 := magOfBits_eq (by decide)
  exact (bisect_spec (fun n => leTransfer F (magOfBits n) (2 ^ b64.unitExp) m (2 ^ b64.unitExp)) (fuel := 63) (lo := 0)
    (hi := infPattern) (by rw [h0]; exact leTransfer_zero F _ _ _) (by decide) (by decide)).2

/-- Binary64 patterns and the order of the rationals with denominator 2^1074. -/
theorem leTransfer_mag {F : Transfer} {m a b : Nat} (h : a ≤ b)
    (hle : leTransfer F b (2 ^ b64.unitExp) m (2 ^ b64.unitExp) = true) :
    leTransfer F a (2 ^ b64.unitExp) m (2 ^ b64.unitExp) = true :=
  leTransfer_of_le (Nat.two_pow_pos _) (Nat.mul_le_mul_right _ h) hle

/-- R172 (1) for the floor. -/
theorem floorMag_bound (F : Transfer) (m : Nat) (hr : InNormalRange F m) : withinBound F m (floorMag F m) = true := by
  obtain ⟨hlt, hle, hnext⟩ := floorPattern_spec F m
  have hU : 0 < 2 ^ b64.unitExp := Nat.two_pow_pos _
  rw [withinBound, Bool.and_eq_true]
  refine ⟨leTransfer_of_le hU ?_ hle, ?_⟩
  · show magOfBits _ * 2 ^ 40 * 2 ^ b64.unitExp ≤ magOfBits _ * ((2 ^ 40 + 1) * 2 ^ b64.unitExp)
    rw [Nat.mul_assoc]
    exact Nat.mul_le_mul_left _ (Nat.mul_le_mul_right _ (by decide))
  · unfold floorMag
    generalize floorPattern F m = n at *
    suffices h : ∃ k, geTransfer F k (2 ^ b64.unitExp) m (2 ^ b64.unitExp) = true ∧ k * (2 ^ 40 - 1) ≤ magOfBits n * 2 ^ 40 by
      obtain ⟨k, hk, hb⟩ := h
      refine geTransfer_of_ge hU ?_ hk
      rw [← Nat.mul_assoc]
      exact Nat.mul_le_mul_right _ hb
    by_cases hs : n + 1 = infPattern
    · refine ⟨_, geTransfer_of_not_le hr.2, ?_⟩
      rw [magOfBits_eq hlt, show n = infPattern - 1 by omega, if_neg (by decide)]
      decide +kernel
    · have hn := hnext.resolve_left hs
      refine ⟨_, geTransfer_of_not_le hn, ?_⟩
      have h52 : 2 ^ 52 ≤ n := by
        by_contra hc
        have hc' : magOfBits (n + 1) ≤ 2 ^ 52 := by
          have h2 : magOfBits (2 ^ 52) = 2 ^ 52 := by rw [magOfBits_eq (by decide), if_neg (by decide)]; decide
          exact h2 ▸ magOfBits_mono (b := 2 ^ 52) (by decide) (by omega)
        exact absurd (leTransfer_mag hc' hr.1) (by simp [hn])
      have := (magOfBits_succ (by omega)).2 h52
      omega

/-- R172 (2) for the floor. -/
theorem floorMag_mono (F : Transfer) (x y : Nat) (h : Rises F x y) : floorMag F x ≤ floorMag F y := by
  obtain ⟨hx, hlx, _⟩ := floorPattern_spec F x
  obtain ⟨hy, _, hn⟩ := floorPattern_spec F y
  refine magOfBits_mono hy (Nat.le_of_not_lt fun hlt => ?_)
  rcases hn with hn | hn
  · omega
  · exact absurd (leTransfer_mag (magOfBits_mono hx hlt) (h _ _ (Nat.two_pow_pos _) hlx)) (by simp [hn])

/-! ### The cores -/

/-- A scalar core on the positive finite binary64 values, as magnitudes in units of 2^-1074: any function that meets
R172 (00_scope.md R5). The default values only say that there is one. Log 8. -/
structure ScalarCore (F : Transfer) where
  mag : Nat → Nat := floorMag F
  /-- its results are finite binary64 values -/
  representable : ∀ m, ∃ n, n < infPattern ∧ mag m = magOfBits n := by
    exact fun m => ⟨_, (floorPattern_spec F m).1, rfl⟩
  /-- R172 (1) on (0, 1], and (4) above 1 -/
  bound : ∀ m, InNormalRange F m → withinBound F m (mag m) = true := by exact floorMag_bound F
  /-- R172 (2): it does not fall on (0, 1], wherever the exact F does not (90_conflicts.md C3) -/
  mono : ∀ x y, x ≤ y → y ≤ 2 ^ b64.unitExp → Rises F x y → mag x ≤ mag y := by exact fun x y _ _ h => floorMag_mono F x y h
deriving Inhabited

end Sys2Proof.Machine
end

