-- ==== Sys2Proof/Config.lean ====
section
/-! DEFINITION. What an implementation of PXA fixes and the spec leaves OPEN (00_scope.md R5), and the free values of
93_implementation_defined.md. An `opaque` constant has no value in Lean: a claim proved here holds for every value of it. -/

namespace Sys2Proof.Config

/-- N_CTX - 1, so that N_CTX is in 1..15 (00_scope.md R5; 93 I5). Log 5. -/
opaque extraContexts : Fin 15

/-- N_CTX, the number of command contexts. -/
def nCtx : Nat := extraContexts.val + 1

/-- GAMMA_PRESENT: whether a gamma-LUT provider is attached (00_scope.md R5; 93 I7). Log 6. -/
opaque gammaPresent : Bool

/-- The gamma-LUT provider: six total functions (43_gamma.md R250). An integer result is a whole word here; the commands
cut it to its range by the masks of R251, R253, R255 and R256. -/
structure GammaProvider where
  dir8 : BitVec 8 → Word
  inv8 : BitVec 8 → Word
  dir16 : BitVec 8 → Word
  inv16 : BitVec 16 → Word
  dirF : Word → Word
  invF : Word → Word
deriving Inhabited

/-- GAMMA, the attached provider: any six functions, constant during a run (10_state.md R48; 93 I8, I17). Log 7. -/
opaque gamma : GammaProvider

/-- TO_LINEAR64 on the positive finite values: any core that meets R172 (00_scope.md R5). Log 8. -/
opaque toLinear64 : Machine.ScalarCore .toLinear

/-- TO_SRGB64 on the positive finite values: any core that meets R172, its seam apart (90_conflicts.md C3). Log 8. -/
opaque toSrgb64 : Machine.ScalarCore .toSrgb

/-- PXA_BASE / 0x1000: the base is a multiple of 0x1000 (20_memory.md R70; 93 I6). Log 13. -/
opaque pxaBasePage : Nat

/-- PXA_BASE, the platform address of the register window. -/
def pxaBase : Nat := 0x1000 * pxaBasePage

/-- T_INIT - 1, so that T_INIT is at least 1 (00_scope.md R5; 93 I3). Log 11. -/
opaque extraInitCycles : Nat

/-- T_INIT, the number of cycles the LUT initialisation sequencer takes. -/
def tInit : Nat := extraInitCycles + 1

/-- Which entry (0..1023: S2L8, L2S8, S2LF, L2SF, 256 each) the sequencer writes in its cycle n before the last: the
order of its writes is not fixed (41_srgb.md R177; 93 I2). Log 12. -/
opaque lutWritten : Nat → Nat → Bool

/-- What an 8-bit entry (0..511: S2L8, L2S8) of the LUT store holds after reset: unspecified
(70_reset_and_hazards.md R300; 93 I1). Log 12. -/
opaque lutResetByte : Nat → Byte

/-- What a binary32 entry (0..511: S2LF, L2SF) of the LUT store holds after reset: unspecified (R300; 93 I1). Log 12. -/
opaque lutResetWord : Nat → Word

/-- How the bus may end a CMD write that a reset abandons. -/
inductive AbandonEnd where
  | silent | done | failed
deriving DecidableEq, Repr, Inhabited

/-- How the bus ends the CMD write of a master that a reset abandons, by the number of answers given before and the
master: any value (70_reset_and_hazards.md R302; 93 I15). Log 16. -/
opaque abandonEnd : Nat → Nat → AbandonEnd

end Sys2Proof.Config
end

