-- ==== Sys2Proof/Syntax.lean ====
section
/-! DEFINITION. The 96 legal command words of PXA, one constructor per row of the opcode table (30_encoding.md R104).
A command word has no operand field, so no constructor has an argument: the operands are the lanes and K words of the
context the word is written to (R100). -/

namespace Sys2Proof

/-- A PXA command: a legal combination of OP, FMT and SHAPE (30_encoding.md R104). A name without a shape is shape V4 (R111). -/
inductive Instr where
  | nop
  | mulU8
  | mulU16
  | mulF32
  | lerpU8
  | lerpU16
  | lerpF32
  | prelerpU8
  | prelerpU16
  | prelerpF32
  | mulcovU8
  | mulcovU16
  | mulcovF32
  | s2lU8
  | s2lU8Ga
  | s2lU8Rgb
  | s2lU8Rgba
  | s2lU16
  | s2lU16Ga
  | s2lU16Rgb
  | s2lU16Rgba
  | s2lF32
  | s2lF32Ga
  | s2lF32Rgb
  | s2lF32Rgba
  | l2sU8
  | l2sU8Ga
  | l2sU8Rgb
  | l2sU8Rgba
  | l2sU16
  | l2sU16Ga
  | l2sU16Rgb
  | l2sU16Rgba
  | l2sF32
  | l2sF32Ga
  | l2sF32Rgb
  | l2sF32Rgba
  | s2lt
  | l2st
  | premulU8Ga
  | premulU8Rgb
  | premulU8Rgba
  | premulU16Ga
  | premulU16Rgb
  | premulU16Rgba
  | premulF32Ga
  | premulF32Rgb
  | premulF32Rgba
  | demulU8Ga
  | demulU8Rgb
  | demulU8Rgba
  | demulU16Ga
  | demulU16Rgb
  | demulU16Rgba
  | demulF32Ga
  | demulF32Rgb
  | demulF32Rgba
  | gradU8
  | gradU8Ga
  | gradU8Rgb
  | gradU8Rgba
  | gradU16
  | gradU16Ga
  | gradU16Rgb
  | gradU16Rgba
  | gradF32
  | gradF32Ga
  | gradF32Rgb
  | gradF32Rgba
  | addU8Ga
  | addU8Rgb
  | addU8Rgba
  | addU16Ga
  | addU16Rgb
  | addU16Rgba
  | addF32Ga
  | addF32Rgb
  | addF32Rgba
  | gdirU8
  | gdirU8Ga
  | gdirU8Rgb
  | gdirU8Rgba
  | gdirF32
  | gdirF32Ga
  | gdirF32Rgb
  | gdirF32Rgba
  | ginvU8
  | ginvU8Ga
  | ginvU8Rgb
  | ginvU8Rgba
  | ginvF32
  | ginvF32Ga
  | ginvF32Rgb
  | ginvF32Rgba
  | gdir16
  | ginv16
deriving DecidableEq, Repr

end Sys2Proof
end

