-- ==== Sys2Proof/WellFormed.lean ====
section
/-! DEFINITION. The fields of a command word, the legality table of 30_encoding.md R104, and the legality conditions of R108.
Instr's constructors are nullary, so it is the FIELDS of a word, and the presence of a provider, that can be ill-formed. -/

namespace Sys2Proof

/-- The OP values listed in 30_encoding.md R104. -/
inductive Op where
  | nop | mul | lerp | prelerp | mulcov | s2l | l2s | s2lt | l2st | premul | demul | grad | add | gdir | ginv | gdir16 | ginv16
deriving DecidableEq, Repr

/-- The channel formats (00_scope.md R6; 30_encoding.md R102). -/
inductive Fmt where
  | u8 | u16 | f32
deriving DecidableEq, Repr

/-- The lane interpretations (30_encoding.md R103). -/
inductive Shape where
  | v4 | ga | rgb | rgba
deriving DecidableEq, Repr

/-- The raw fields of a command word (30_encoding.md R101). -/
structure Fields where
  op : BitVec 6
  fmt : BitVec 2
  shape : BitVec 2
  rsvd : BitVec 22
deriving DecidableEq, Repr

/-- The "legal FMT" column of R104. -/
def legalFmts : Op → List Fmt
  | .nop | .s2lt | .l2st | .gdir16 => [.u8]
  | .ginv16 => [.u16]
  | .gdir | .ginv => [.u8, .f32]
  | .mul | .lerp | .prelerp | .mulcov | .s2l | .l2s | .premul | .demul | .grad | .add => [.u8, .u16, .f32]

/-- The "legal SHAPE" column of R104. -/
def legalShapes : Op → List Shape
  | .nop | .mul | .lerp | .prelerp | .mulcov | .s2lt | .l2st | .gdir16 | .ginv16 => [.v4]
  | .premul | .demul | .add => [.ga, .rgb, .rgba]
  | .s2l | .l2s | .grad | .gdir | .ginv => [.v4, .ga, .rgb, .rgba]

/-- The "needs provider" column of R104. -/
def opNeedsProvider : Op → Bool
  | .gdir | .ginv | .gdir16 | .ginv16 => true
  | .nop | .mul | .lerp | .prelerp | .mulcov | .s2l | .l2s | .s2lt | .l2st | .premul | .demul | .grad | .add => false

/-- The OP numbers of R104. -/
def opListed (b : BitVec 6) : Option Op :=
  match b.toNat with
  | 0x00 => some .nop
  | 0x01 => some .mul
  | 0x02 => some .lerp
  | 0x03 => some .prelerp
  | 0x04 => some .mulcov
  | 0x08 => some .s2l
  | 0x09 => some .l2s
  | 0x0A => some .s2lt
  | 0x0B => some .l2st
  | 0x10 => some .premul
  | 0x11 => some .demul
  | 0x12 => some .grad
  | 0x13 => some .add
  | 0x18 => some .gdir
  | 0x19 => some .ginv
  | 0x1A => some .gdir16
  | 0x1B => some .ginv16
  | _ => none

/-- The FMT numbers of R102; 3 is reserved. -/
def fmtListed (b : BitVec 2) : Option Fmt :=
  match b.toNat with
  | 0 => some .u8
  | 1 => some .u16
  | 2 => some .f32
  | _ => none

/-- The SHAPE numbers of R103: all four are used. -/
def shapeListed (b : BitVec 2) : Shape :=
  match b.toNat with
  | 0 => .v4
  | 1 => .ga
  | 2 => .rgb
  | _ => .rgba

/-- R108 (1): the reserved bits are 0. -/
def rsvdOk (f : Fields) : Bool := f.rsvd == 0

/-- R108 (2): OP is listed. -/
def opOk (f : Fields) : Bool := (opListed f.op).isSome

/-- R108 (3): FMT is in the row's set. -/
def fmtOk (f : Fields) : Bool :=
  match opListed f.op, fmtListed f.fmt with
  | some o, some fm => (legalFmts o).contains fm
  | _, _ => false

/-- R108 (4): SHAPE is in the row's set. -/
def shapeOk (f : Fields) : Bool :=
  match opListed f.op with
  | some o => (legalShapes o).contains (shapeListed f.shape)
  | none => false

/-- R108 (5): a command that needs the provider has one. -/
def providerOk (gammaPresent : Bool) (f : Fields) : Bool :=
  match opListed f.op with
  | some o => gammaPresent || !opNeedsProvider o
  | none => false

/-- R108: the fields of a legal command word, where GAMMA_PRESENT is `gammaPresent`. -/
def WellFormed (gammaPresent : Bool) (f : Fields) : Bool :=
  rsvdOk f && opOk f && fmtOk f && shapeOk f && providerOk gammaPresent f

end Sys2Proof
end

