-- ==== Sys2Proof/Decode.lean ====
section
/-! DEFINITION. The decoder of command words (30_encoding.md R100-R110), total, rejecting by name; after it the encoder. -/

namespace Sys2Proof

/-- Why a word is no command (30_encoding.md R108 (1)-(4), R109). The reasons cannot be told apart on the hardware
(R108: "the checks have no order that can be observed"); log 19. -/
inductive DecodeError where
  /-- a reserved bit of [31:10] is set -/
  | rsvdNotZero
  /-- the OP value is not listed in R104 -/
  | reservedOp
  /-- FMT is 3, or not in the OP's legal set -/
  | illegalFmt
  /-- SHAPE is not in the OP's legal set -/
  | illegalShape
  /-- fewer than four bytes were given -/
  | shortWord
deriving DecidableEq, Repr

/-- What the decoder answers. -/
inductive Decoded where
  | instr (i : Instr)
  | illegal (e : DecodeError)
deriving DecidableEq, Repr

/-- The fields of a word (30_encoding.md R101). -/
def fieldsOf (w : Word) : Fields :=
  { op := w.extractLsb' 0 6, fmt := w.extractLsb' 6 2, shape := w.extractLsb' 8 2, rsvd := w.extractLsb' 10 22 }

/-- OP by its number (30_encoding.md R104). -/
def opOfBits (b : BitVec 6) : Option Op :=
  match b.toNat with
  | 0x00 => some .nop
  | 0x01 => some .mul
  | 0x02 => some .lerp
  | 0x03 => some .prelerp
  | 0x04 => some .mulcov
  | 0x08 => some .s2l
  | 0x09 => some .l2s
  | 0x0A => some .s2lt
  | 0x0B => some .l2st
  | 0x10 => some .premul
  | 0x11 => some .demul
  | 0x12 => some .grad
  | 0x13 => some .add
  | 0x18 => some .gdir
  | 0x19 => some .ginv
  | 0x1A => some .gdir16
  | 0x1B => some .ginv16
  | _ => none

/-- FMT by its number (30_encoding.md R102). -/
def fmtOfBits (b : BitVec 2) : Option Fmt :=
  match b.toNat with
  | 0 => some .u8
  | 1 => some .u16
  | 2 => some .f32
  | _ => none

/-- SHAPE by its number (30_encoding.md R103). -/
def shapeOfBits (b : BitVec 2) : Shape :=
  match b.toNat with
  | 0 => .v4
  | 1 => .ga
  | 2 => .rgb
  | _ => .rgba

/-- The NOP row of R104: its commands by FMT and SHAPE. -/
def nopRow : Fmt → Shape → Option Instr
  | .u8, .v4 => some .nop
  | _, _ => none

/-- The MUL row of R104: its commands by FMT and SHAPE. -/
def mulRow : Fmt → Shape → Option Instr
  | .u8, .v4 => some .mulU8
  | .u16, .v4 => some .mulU16
  | .f32, .v4 => some .mulF32
  | _, _ => none

/-- The LERP row of R104: its commands by FMT and SHAPE. -/
def lerpRow : Fmt → Shape → Option Instr
  | .u8, .v4 => some .lerpU8
  | .u16, .v4 => some .lerpU16
  | .f32, .v4 => some .lerpF32
  | _, _ => none

/-- The PRELERP row of R104: its commands by FMT and SHAPE. -/
def prelerpRow : Fmt → Shape → Option Instr
  | .u8, .v4 => some .prelerpU8
  | .u16, .v4 => some .prelerpU16
  | .f32, .v4 => some .prelerpF32
  | _, _ => none

/-- The MULCOV row of R104: its commands by FMT and SHAPE. -/
def mulcovRow : Fmt → Shape → Option Instr
  | .u8, .v4 => some .mulcovU8
  | .u16, .v4 => some .mulcovU16
  | .f32, .v4 => some .mulcovF32
  | _, _ => none

/-- The S2L row of R104: its commands by FMT and SHAPE. -/
def s2lRow : Fmt → Shape → Option Instr
  | .u8, .v4 => some .s2lU8
  | .u8, .ga => some .s2lU8Ga
  | .u8, .rgb => some .s2lU8Rgb
  | .u8, .rgba => some .s2lU8Rgba
  | .u16, .v4 => some .s2lU16
  | .u16, .ga => some .s2lU16Ga
  | .u16, .rgb => some .s2lU16Rgb
  | .u16, .rgba => some .s2lU16Rgba
  | .f32, .v4 => some .s2lF32
  | .f32, .ga => some .s2lF32Ga
  | .f32, .rgb => some .s2lF32Rgb
  | .f32, .rgba => some .s2lF32Rgba

/-- The L2S row of R104: its commands by FMT and SHAPE. -/
def l2sRow : Fmt → Shape → Option Instr
  | .u8, .v4 => some .l2sU8
  | .u8, .ga => some .l2sU8Ga
  | .u8, .rgb => some .l2sU8Rgb
  | .u8, .rgba => some .l2sU8Rgba
  | .u16, .v4 => some .l2sU16
  | .u16, .ga => some .l2sU16Ga
  | .u16, .rgb => some .l2sU16Rgb
  | .u16, .rgba => some .l2sU16Rgba
  | .f32, .v4 => some .l2sF32
  | .f32, .ga => some .l2sF32Ga
  | .f32, .rgb => some .l2sF32Rgb
  | .f32, .rgba => some .l2sF32Rgba

/-- The S2LT row of R104: its commands by FMT and SHAPE. -/
def s2ltRow : Fmt → Shape → Option Instr
  | .u8, .v4 => some .s2lt
  | _, _ => none

/-- The L2ST row of R104: its commands by FMT and SHAPE. -/
def l2stRow : Fmt → Shape → Option Instr
  | .u8, .v4 => some .l2st
  | _, _ => none

/-- The PREMUL row of R104: its commands by FMT and SHAPE. -/
def premulRow : Fmt → Shape → Option Instr
  | .u8, .ga => some .premulU8Ga
  | .u8, .rgb => some .premulU8Rgb
  | .u8, .rgba => some .premulU8Rgba
  | .u16, .ga => some .premulU16Ga
  | .u16, .rgb => some .premulU16Rgb
  | .u16, .rgba => some .premulU16Rgba
  | .f32, .ga => some .premulF32Ga
  | .f32, .rgb => some .premulF32Rgb
  | .f32, .rgba => some .premulF32Rgba
  | _, _ => none

/-- The DEMUL row of R104: its commands by FMT and SHAPE. -/
def demulRow : Fmt → Shape → Option Instr
  | .u8, .ga => some .demulU8Ga
  | .u8, .rgb => some .demulU8Rgb
  | .u8, .rgba => some .demulU8Rgba
  | .u16, .ga => some .demulU16Ga
  | .u16, .rgb => some .demulU16Rgb
  | .u16, .rgba => some .demulU16Rgba
  | .f32, .ga => some .demulF32Ga
  | .f32, .rgb => some .demulF32Rgb
  | .f32, .rgba => some .demulF32Rgba
  | _, _ => none

/-- The GRAD row of R104: its commands by FMT and SHAPE. -/
def gradRow : Fmt → Shape → Option Instr
  | .u8, .v4 => some .gradU8
  | .u8, .ga => some .gradU8Ga
  | .u8, .rgb => some .gradU8Rgb
  | .u8, .rgba => some .gradU8Rgba
  | .u16, .v4 => some .gradU16
  | .u16, .ga => some .gradU16Ga
  | .u16, .rgb => some .gradU16Rgb
  | .u16, .rgba => some .gradU16Rgba
  | .f32, .v4 => some .gradF32
  | .f32, .ga => some .gradF32Ga
  | .f32, .rgb => some .gradF32Rgb
  | .f32, .rgba => some .gradF32Rgba

/-- The ADD row of R104: its commands by FMT and SHAPE. -/
def addRow : Fmt → Shape → Option Instr
  | .u8, .ga => some .addU8Ga
  | .u8, .rgb => some .addU8Rgb
  | .u8, .rgba => some .addU8Rgba
  | .u16, .ga => some .addU16Ga
  | .u16, .rgb => some .addU16Rgb
  | .u16, .rgba => some .addU16Rgba
  | .f32, .ga => some .addF32Ga
  | .f32, .rgb => some .addF32Rgb
  | .f32, .rgba => some .addF32Rgba
  | _, _ => none

/-- The GDIR row of R104: its commands by FMT and SHAPE. -/
def gdirRow : Fmt → Shape → Option Instr
  | .u8, .v4 => some .gdirU8
  | .u8, .ga => some .gdirU8Ga
  | .u8, .rgb => some .gdirU8Rgb
  | .u8, .rgba => some .gdirU8Rgba
  | .f32, .v4 => some .gdirF32
  | .f32, .ga => some .gdirF32Ga
  | .f32, .rgb => some .gdirF32Rgb
  | .f32, .rgba => some .gdirF32Rgba
  | _, _ => none

/-- The GINV row of R104: its commands by FMT and SHAPE. -/
def ginvRow : Fmt → Shape → Option Instr
  | .u8, .v4 => some .ginvU8
  | .u8, .ga => some .ginvU8Ga
  | .u8, .rgb => some .ginvU8Rgb
  | .u8, .rgba => some .ginvU8Rgba
  | .f32, .v4 => some .ginvF32
  | .f32, .ga => some .ginvF32Ga
  | .f32, .rgb => some .ginvF32Rgb
  | .f32, .rgba => some .ginvF32Rgba
  | _, _ => none

/-- The GDIR16 row of R104: its commands by FMT and SHAPE. -/
def gdir16Row : Fmt → Shape → Option Instr
  | .u8, .v4 => some .gdir16
  | _, _ => none

/-- The GINV16 row of R104: its commands by FMT and SHAPE. -/
def ginv16Row : Fmt → Shape → Option Instr
  | .u16, .v4 => some .ginv16
  | _, _ => none

/-- The command of an OP, FMT and SHAPE, where R104 lists it. -/
def instrOf (o : Op) (f : Fmt) (sh : Shape) : Option Instr :=
  match o with
  | .nop => nopRow f sh
  | .mul => mulRow f sh
  | .lerp => lerpRow f sh
  | .prelerp => prelerpRow f sh
  | .mulcov => mulcovRow f sh
  | .s2l => s2lRow f sh
  | .l2s => l2sRow f sh
  | .s2lt => s2ltRow f sh
  | .l2st => l2stRow f sh
  | .premul => premulRow f sh
  | .demul => demulRow f sh
  | .grad => gradRow f sh
  | .add => addRow f sh
  | .gdir => gdirRow f sh
  | .ginv => ginvRow f sh
  | .gdir16 => gdir16Row f sh
  | .ginv16 => ginv16Row f sh

/-- Which of R108 (3) and (4) fails, for an OP, FMT and SHAPE that R104 does not list. -/
def whyNotListed (o : Op) (f : Fmt) : DecodeError :=
  if (legalFmts o).contains f then .illegalShape else .illegalFmt

/-- The decoder: R108 (1)-(4). Condition (5), the provider, is a matter of the machine's configuration and is
checked where the command is performed (`Sys2Proof.Machine.computeGamma`). -/
def decode (w : Word) : Decoded :=
  let f := fieldsOf w
  if f.rsvd ≠ 0 then .illegal .rsvdNotZero
  else
    match opOfBits f.op with
    | none => .illegal .reservedOp
    | some o =>
      match fmtOfBits f.fmt with
      | none => .illegal .illegalFmt
      | some fm =>
        match instrOf o fm (shapeOfBits f.shape) with
        | none => .illegal (whyNotListed o fm)
        | some i => .instr i

/-- The word whose bits [8j+7:8j] are the byte at offset +j (20_memory.md R72, little-endian). -/
def wordOfBytes (b0 b1 b2 b3 : Byte) : Word := b3 ++ b2 ++ b1 ++ b0

/-- The bytes of a word, the one at the lowest offset first (20_memory.md R72). -/
def bytesOfWord (w : Word) : List Byte :=
  [w.extractLsb' 0 8, w.extractLsb' 8 8, w.extractLsb' 16 8, w.extractLsb' 24 8]

/-- The decoder on bytes: the command in the first four, and the bytes after it. -/
def decodeBytes : List Byte → Decoded × List Byte
  | b0 :: b1 :: b2 :: b3 :: rest => (decode (wordOfBytes b0 b1 b2 b3), rest)
  | short => (.illegal .shortWord, short)

/-- The OP, FMT and SHAPE of each command (30_encoding.md R104). -/
def opFmtShape : Instr → Op × Fmt × Shape
  | .nop => (.nop, .u8, .v4)
  | .mulU8 => (.mul, .u8, .v4)
  | .mulU16 => (.mul, .u16, .v4)
  | .mulF32 => (.mul, .f32, .v4)
  | .lerpU8 => (.lerp, .u8, .v4)
  | .lerpU16 => (.lerp, .u16, .v4)
  | .lerpF32 => (.lerp, .f32, .v4)
  | .prelerpU8 => (.prelerp, .u8, .v4)
  | .prelerpU16 => (.prelerp, .u16, .v4)
  | .prelerpF32 => (.prelerp, .f32, .v4)
  | .mulcovU8 => (.mulcov, .u8, .v4)
  | .mulcovU16 => (.mulcov, .u16, .v4)
  | .mulcovF32 => (.mulcov, .f32, .v4)
  | .s2lU8 => (.s2l, .u8, .v4)
  | .s2lU8Ga => (.s2l, .u8, .ga)
  | .s2lU8Rgb => (.s2l, .u8, .rgb)
  | .s2lU8Rgba => (.s2l, .u8, .rgba)
  | .s2lU16 => (.s2l, .u16, .v4)
  | .s2lU16Ga => (.s2l, .u16, .ga)
  | .s2lU16Rgb => (.s2l, .u16, .rgb)
  | .s2lU16Rgba => (.s2l, .u16, .rgba)
  | .s2lF32 => (.s2l, .f32, .v4)
  | .s2lF32Ga => (.s2l, .f32, .ga)
  | .s2lF32Rgb => (.s2l, .f32, .rgb)
  | .s2lF32Rgba => (.s2l, .f32, .rgba)
  | .l2sU8 => (.l2s, .u8, .v4)
  | .l2sU8Ga => (.l2s, .u8, .ga)
  | .l2sU8Rgb => (.l2s, .u8, .rgb)
  | .l2sU8Rgba => (.l2s, .u8, .rgba)
  | .l2sU16 => (.l2s, .u16, .v4)
  | .l2sU16Ga => (.l2s, .u16, .ga)
  | .l2sU16Rgb => (.l2s, .u16, .rgb)
  | .l2sU16Rgba => (.l2s, .u16, .rgba)
  | .l2sF32 => (.l2s, .f32, .v4)
  | .l2sF32Ga => (.l2s, .f32, .ga)
  | .l2sF32Rgb => (.l2s, .f32, .rgb)
  | .l2sF32Rgba => (.l2s, .f32, .rgba)
  | .s2lt => (.s2lt, .u8, .v4)
  | .l2st => (.l2st, .u8, .v4)
  | .premulU8Ga => (.premul, .u8, .ga)
  | .premulU8Rgb => (.premul, .u8, .rgb)
  | .premulU8Rgba => (.premul, .u8, .rgba)
  | .premulU16Ga => (.premul, .u16, .ga)
  | .premulU16Rgb => (.premul, .u16, .rgb)
  | .premulU16Rgba => (.premul, .u16, .rgba)
  | .premulF32Ga => (.premul, .f32, .ga)
  | .premulF32Rgb => (.premul, .f32, .rgb)
  | .premulF32Rgba => (.premul, .f32, .rgba)
  | .demulU8Ga => (.demul, .u8, .ga)
  | .demulU8Rgb => (.demul, .u8, .rgb)
  | .demulU8Rgba => (.demul, .u8, .rgba)
  | .demulU16Ga => (.demul, .u16, .ga)
  | .demulU16Rgb => (.demul, .u16, .rgb)
  | .demulU16Rgba => (.demul, .u16, .rgba)
  | .demulF32Ga => (.demul, .f32, .ga)
  | .demulF32Rgb => (.demul, .f32, .rgb)
  | .demulF32Rgba => (.demul, .f32, .rgba)
  | .gradU8 => (.grad, .u8, .v4)
  | .gradU8Ga => (.grad, .u8, .ga)
  | .gradU8Rgb => (.grad, .u8, .rgb)
  | .gradU8Rgba => (.grad, .u8, .rgba)
  | .gradU16 => (.grad, .u16, .v4)
  | .gradU16Ga => (.grad, .u16, .ga)
  | .gradU16Rgb => (.grad, .u16, .rgb)
  | .gradU16Rgba => (.grad, .u16, .rgba)
  | .gradF32 => (.grad, .f32, .v4)
  | .gradF32Ga => (.grad, .f32, .ga)
  | .gradF32Rgb => (.grad, .f32, .rgb)
  | .gradF32Rgba => (.grad, .f32, .rgba)
  | .addU8Ga => (.add, .u8, .ga)
  | .addU8Rgb => (.add, .u8, .rgb)
  | .addU8Rgba => (.add, .u8, .rgba)
  | .addU16Ga => (.add, .u16, .ga)
  | .addU16Rgb => (.add, .u16, .rgb)
  | .addU16Rgba => (.add, .u16, .rgba)
  | .addF32Ga => (.add, .f32, .ga)
  | .addF32Rgb => (.add, .f32, .rgb)
  | .addF32Rgba => (.add, .f32, .rgba)
  | .gdirU8 => (.gdir, .u8, .v4)
  | .gdirU8Ga => (.gdir, .u8, .ga)
  | .gdirU8Rgb => (.gdir, .u8, .rgb)
  | .gdirU8Rgba => (.gdir, .u8, .rgba)
  | .gdirF32 => (.gdir, .f32, .v4)
  | .gdirF32Ga => (.gdir, .f32, .ga)
  | .gdirF32Rgb => (.gdir, .f32, .rgb)
  | .gdirF32Rgba => (.gdir, .f32, .rgba)
  | .ginvU8 => (.ginv, .u8, .v4)
  | .ginvU8Ga => (.ginv, .u8, .ga)
  | .ginvU8Rgb => (.ginv, .u8, .rgb)
  | .ginvU8Rgba => (.ginv, .u8, .rgba)
  | .ginvF32 => (.ginv, .f32, .v4)
  | .ginvF32Ga => (.ginv, .f32, .ga)
  | .ginvF32Rgb => (.ginv, .f32, .rgb)
  | .ginvF32Rgba => (.ginv, .f32, .rgba)
  | .gdir16 => (.gdir16, .u8, .v4)
  | .ginv16 => (.ginv16, .u16, .v4)

/-- The OP number (30_encoding.md R104). -/
def opBits : Op → BitVec 6
  | .nop => 0x00
  | .mul => 0x01
  | .lerp => 0x02
  | .prelerp => 0x03
  | .mulcov => 0x04
  | .s2l => 0x08
  | .l2s => 0x09
  | .s2lt => 0x0A
  | .l2st => 0x0B
  | .premul => 0x10
  | .demul => 0x11
  | .grad => 0x12
  | .add => 0x13
  | .gdir => 0x18
  | .ginv => 0x19
  | .gdir16 => 0x1A
  | .ginv16 => 0x1B

/-- The FMT number (30_encoding.md R102). -/
def fmtBits : Fmt → BitVec 2
  | .u8 => 0
  | .u16 => 1
  | .f32 => 2

/-- The SHAPE number (30_encoding.md R103). -/
def shapeBits : Shape → BitVec 2
  | .v4 => 0
  | .ga => 1
  | .rgb => 2
  | .rgba => 3

/-- The fields of a command (30_encoding.md R101). -/
def fieldsOfInstr (i : Instr) : Fields :=
  { op := opBits (opFmtShape i).1, fmt := fmtBits (opFmtShape i).2.1, shape := shapeBits (opFmtShape i).2.2, rsvd := 0 }

/-- The word assembled from its fields: `OP | (FMT << 6) | (SHAPE << 8)` (30_encoding.md R101). -/
def wordOfFields (f : Fields) : Word := f.rsvd ++ f.shape ++ f.fmt ++ f.op

/-- The encoder (30_encoding.md R101, R111). -/
def encode (i : Instr) : Word := wordOfFields (fieldsOfInstr i)

/-- Every command, in the opcode table's order. -/
def allInstrs : List Instr :=
  ([.nop, .mulU8, .mulU16, .mulF32, .lerpU8, .lerpU16, .lerpF32, .prelerpU8, .prelerpU16, .prelerpF32, .mulcovU8, .mulcovU16] : List Instr) ++
  ([.mulcovF32, .s2lU8, .s2lU8Ga, .s2lU8Rgb, .s2lU8Rgba, .s2lU16, .s2lU16Ga, .s2lU16Rgb, .s2lU16Rgba, .s2lF32, .s2lF32Ga, .s2lF32Rgb] : List Instr) ++
  ([.s2lF32Rgba, .l2sU8, .l2sU8Ga, .l2sU8Rgb, .l2sU8Rgba, .l2sU16, .l2sU16Ga, .l2sU16Rgb, .l2sU16Rgba, .l2sF32, .l2sF32Ga, .l2sF32Rgb] : List Instr) ++
  ([.l2sF32Rgba, .s2lt, .l2st, .premulU8Ga, .premulU8Rgb, .premulU8Rgba, .premulU16Ga, .premulU16Rgb, .premulU16Rgba, .premulF32Ga, .premulF32Rgb, .premulF32Rgba] : List Instr) ++
  ([.demulU8Ga, .demulU8Rgb, .demulU8Rgba, .demulU16Ga, .demulU16Rgb, .demulU16Rgba, .demulF32Ga, .demulF32Rgb, .demulF32Rgba, .gradU8, .gradU8Ga, .gradU8Rgb] : List Instr) ++
  ([.gradU8Rgba, .gradU16, .gradU16Ga, .gradU16Rgb, .gradU16Rgba, .gradF32, .gradF32Ga, .gradF32Rgb, .gradF32Rgba, .addU8Ga, .addU8Rgb, .addU8Rgba] : List Instr) ++
  ([.addU16Ga, .addU16Rgb, .addU16Rgba, .addF32Ga, .addF32Rgb, .addF32Rgba, .gdirU8, .gdirU8Ga, .gdirU8Rgb, .gdirU8Rgba, .gdirF32, .gdirF32Ga] : List Instr) ++
  ([.gdirF32Rgb, .gdirF32Rgba, .ginvU8, .ginvU8Ga, .ginvU8Rgb, .ginvU8Rgba, .ginvF32, .ginvF32Ga, .ginvF32Rgb, .ginvF32Rgba, .gdir16, .ginv16] : List Instr)

/-- The command the decoder reads from an instruction whose bits are w. The bits from nbits on are 0. -/
def decodeTableWord (nbits w : Nat) : Option Instr :=
  match (decodeBytes (bytesOfWord (BitVec.ofNat 32 (w % 2 ^ nbits)))).1 with
  | .instr i => some i
  | .illegal _ => none

end Sys2Proof
end

