-- ==== Sys2Proof/Machine/State.lean ====
section
/-! DEFINITION. Everything PXA holds (10_state.md R30), what stands outside it on the bus, the reasons a step can stop, and the
state after reset (70_reset_and_hazards.md R300). Plain data throughout. -/

namespace Sys2Proof.Machine

/-- The operand words a command computes from: A, B, K0 and K1, sampled together when its CMD write is accepted
(20_memory.md R74). -/
structure Operands where
  a : Lanes
  b : Lanes
  k0 : Word
  k1 : Word
deriving DecidableEq, Repr, Inhabited

/-- CSTATE (10_state.md R47). A waiting context keeps the command it accepted: the bus master whose CMD write is
incomplete, the command, and its operand snapshot (R74, R84). Log 18. -/
inductive CState where
  | ready
  | waitLut (master : Nat) (cmd : Instr) (ops : Operands)
deriving DecidableEq, Repr

/-- One command context (10_state.md R30 (a), R36). -/
structure Context where
  /-- A0..A3 (R40) -/
  a : Lanes
  /-- B0..B3 (R40) -/
  b : Lanes
  /-- K0 (R41) -/
  k0 : Word
  /-- K1 (R41) -/
  k1 : Word
  /-- R0..R3 (R42) -/
  r : Lanes
  /-- CSTATUS bit 0, sticky (R38) -/
  errIll : Bool
  /-- ERRCMD (R39) -/
  errcmd : Word
  /-- CSTATE (R47) -/
  cstate : CState
deriving DecidableEq, Repr

/-- LSTATE, the initialisation state of the LUT store (10_state.md R46). -/
inductive LState where
  | idle | busy | valid
deriving DecidableEq, Repr

/-- The LUT store (10_state.md R45). -/
structure LutStore where
  s2l8 : Vector Byte 256
  l2s8 : Vector Byte 256
  s2lf : Vector Word 256
  l2sf : Vector Word 256
deriving DecidableEq, Repr

/-- A host access is a read or a write of a value (00_scope.md R10: MemRead, MemWrite). -/
inductive AccessKind where
  | read
  | write (v : Word)
deriving DecidableEq, Repr

/-- One host access that reached the 4 KiB window: which bus master issued it, how many bytes wide it is, and its offset
from PXA_BASE (20_memory.md R70). Log 13. -/
structure Access where
  master : Nat
  width : Nat
  off : BitVec 12
  kind : AccessKind
deriving DecidableEq, Repr

/-- What the outside does to PXA: an access, or the reset input (70_reset_and_hazards.md R300). Log 1. -/
inductive Input where
  | access (a : Access)
  | reset
deriving DecidableEq, Repr

/-- What the bus answers a master: the data of a read, the completion of a write (20_memory.md R78), or, for a CMD write that
a reset abandoned, its failure (70_reset_and_hazards.md R302; 93 I15; log 16). Log 2. -/
inductive Response where
  | readData (master : Nat) (v : Word)
  | writeDone (master : Nat)
  | writeFailed (master : Nat)
deriving DecidableEq, Repr

/-- The CMD write being performed: its master, its context c and its word w (60_exceptions.md R274). Log 3. -/
structure Issue where
  master : Nat
  ctx : Nat
  word : Word
deriving DecidableEq, Repr

/-- The machine. -/
structure State where
  /-- the N_CTX command contexts, context c at index c (10_state.md R30 (a)); N_CTX is the list's length, log 5 -/
  contexts : List Context
  /-- LSTATE (R46) -/
  lstate : LState
  /-- the LUT store (R45) -/
  lut : LutStore
  /-- the model's own: cycles the sequencer has run since it was started (41_srgb.md R177), log 11 -/
  seqCycle : Nat
  /-- GAMMA_PRESENT, which GINFO reads (R32): configuration, never written, log 6 -/
  gammaPresent : Bool
  /-- the model's own: the CMD write being performed, log 3 -/
  issue : Issue
  /-- the model's own: what the outside has asked and PXA has not yet taken, in bus order, log 1 -/
  inputs : List Input
  /-- the model's own: the bus responses given, newest first, log 2 -/
  responses : List Response
deriving DecidableEq, Repr

/-- Why the machine stops. -/
inductive Fault where
  /-- A host access that is not 32 bits wide at a multiple-of-4 offset, refused with a bus error at this address
  (20_memory.md R73, 60_exceptions.md R273: "In the model a BusError is a fault"). Raised by
  `Sys2Proof.Machine.performAccess`. Safe: PXA itself goes on, see `State.afterBusError`, log 14. -/
  | busError (addr : Nat)
deriving DecidableEq, Repr

/-- Why the model gives no meaning. -/
inductive Refusal where
  /-- An instruction without a meaning in this model. No arm of exec answers so: every command of the table is
  modelled. It would be safe. -/
  | notModelled (mnemonic : String)
deriving DecidableEq, Repr

/-- A context after reset (70_reset_and_hazards.md R300). -/
def Context.reset : Context :=
  { a := ⟨0, 0, 0, 0⟩, b := ⟨0, 0, 0, 0⟩, k0 := 0, k1 := 0, r := ⟨0, 0, 0, 0⟩, errIll := false, errcmd := 0, cstate := .ready }

/-- The LUT store after reset: unspecified, so free values (R300; 93 I1). Log 12. -/
def LutStore.unspecified : LutStore :=
  { s2l8 := Vector.ofFn fun i => Config.lutResetByte i.val
    l2s8 := Vector.ofFn fun i => Config.lutResetByte (256 + i.val)
    s2lf := Vector.ofFn fun i => Config.lutResetWord i.val
    l2sf := Vector.ofFn fun i => Config.lutResetWord (256 + i.val) }

/-- The machine right after reset (70_reset_and_hazards.md R300), with nothing asked of it yet. -/
def State.reset : State :=
  { contexts := List.replicate Config.nCtx Context.reset
    lstate := .idle
    lut := LutStore.unspecified
    seqCycle := 0
    gammaPresent := Config.gammaPresent
    issue := ⟨0, 0, 0⟩
    inputs := []
    responses := [] }

end Sys2Proof.Machine
end

