-- ==== Sys2Proof/Machine/IntKernels.lean ====
section
/-! DEFINITION. The integer kernel functions of 40_kernels.md R130-R133, for channel width W, on unbounded integers with floor
shifts (00_scope.md R8). -/

namespace Sys2Proof.Machine

/-- max_W = 2^W - 1 (00_scope.md R6). -/
def maxW (W : Nat) : Nat := 2 ^ W - 1

/-- half_W = 2^(W-1) (00_scope.md R6). -/
def halfW (W : Nat) : Nat := 2 ^ (W - 1)

/-- `mul_W(a, b)` (R130). -/
def mulW (W a b : Nat) : Nat :=
  let t := a * b + halfW W
  ((t >>> W) + t) >>> W

/-- `lerp_W(p, q, a)`, signed and exact, the shifts being floor shifts (R131). -/
def lerpInt (W : Nat) (p q a : Int) : Int :=
  let t := (q - p) * a + (halfW W : Int) - (if q < p then 1 else 0)
  p + (((t >>> W) + t) >>> W)

/-- `lerp_W` as a channel value: it is never negative (R135 (c)). -/
def lerpW (W p q a : Nat) : Nat := (lerpInt W p q a).toNat

/-- `prelerp_W(p, q, a) = min(p + q - mul_W(p, a), max_W)` (R132); the sum is never negative, as mul_W(p, a) ≤ p. -/
def prelerpW (W p q a : Nat) : Nat := min (p + q - mulW W p a) (maxW W)

/-- `cov_W(cover)`: the 8-bit coverage in the channel domain (R133). -/
def covW (W cover : Nat) : Nat := if W = 8 then cover else cover * 257

/-- `multCover_W(c, cover)` (R133). -/
def multCoverW (W c cover : Nat) : Nat := mulW W c (covW W cover)

end Sys2Proof.Machine
end

