-- ==== Sys2Proof/Machine/Operands.lean ====
section
/-! DEFINITION. How a command reads its lanes and its K words, which lanes a shape uses, and how results are put together
(30_encoding.md R103, R105-R107). -/

namespace Sys2Proof.Machine

/-- Lane i of a group (00_scope.md R10). -/
def Lanes.get (l : Lanes) : LaneIx → Word
  | 0 => l.l0
  | 1 => l.l1
  | 2 => l.l2
  | 3 => l.l3

/-- The four lanes given one by one. -/
def Lanes.ofFn (f : LaneIx → Word) : Lanes := ⟨f 0, f 1, f 2, f 3⟩

/-- A group with lane i replaced. -/
def Lanes.put (l : Lanes) (i : LaneIx) (v : Word) : Lanes := Lanes.ofFn fun j => if j = i then v else Lanes.get l j

/-- The four lanes all 0. -/
def Lanes.zero : Lanes := ⟨0, 0, 0, 0⟩

/-- `Lin(x)`: the low W bits of a lane as an integer (00_scope.md R10, 30_encoding.md R105). -/
def lin (W : Nat) (x : Word) : Nat := x.toNat % 2 ^ W

/-- `Out(v) = zext_32(v)` (00_scope.md R10, 30_encoding.md R107). -/
def out (v : Nat) : Word := BitVec.ofNat 32 v

/-- The integer fraction `a = K0[W-1:0]` of LERP and PRELERP (30_encoding.md R106). -/
def kFrac (W : Nat) (o : Operands) : Nat := lin W o.k0

/-- The binary32 fraction `a = f32(K0)` of LERP and PRELERP (R106). -/
def kF32 (o : Operands) : FVal := f32 o.k0

/-- The coverage `cover = K0[7:0]` of MULCOV and ADD, every format (R106). -/
def kCover (o : Operands) : Nat := lin 8 o.k0

/-- The binary64 fraction `k = f64({K1, K0})` of GRAD (R106, 20_memory.md R72). -/
def kF64 (o : Operands) : FVal := f64 (o.k1 ++ o.k0)

/-- The value lanes of a shape (30_encoding.md R103). -/
def isValueLane : Shape → LaneIx → Bool
  | .v4, _ => true
  | .ga, i => i == 0
  | .rgb, i => i != 3
  | .rgba, i => i != 3

/-- The alpha lane of a shape: lane 3, where it has one (R103). -/
def isAlphaLane : Shape → LaneIx → Bool
  | .v4, _ => false
  | .ga, i => i == 3
  | .rgb, _ => false
  | .rgba, i => i == 3

/-- `used(SHAPE)`: the value lanes and the alpha lane (R103). -/
def isUsedLane (sh : Shape) (i : LaneIx) : Bool := isValueLane sh i || isAlphaLane sh i

/-- Whether a shape has an alpha lane; one without has its alpha at the format's max (R103, 92 D23). -/
def hasAlpha : Shape → Bool
  | .ga | .rgba => true
  | .v4 | .rgb => false

/-- The result lanes: `value i` in a value lane, `alpha` in the alpha lane, 0 in an unused lane (R107). -/
def byShape (sh : Shape) (value : LaneIx → Word) (alpha : Word) : Lanes :=
  Lanes.ofFn fun i => if isValueLane sh i then value i else if isAlphaLane sh i then alpha else 0

/-- The result lanes of an operation that treats every used lane alike (42_color.md R215-R218). -/
def byUsed (sh : Shape) (value : LaneIx → Word) : Lanes :=
  Lanes.ofFn fun i => if isUsedLane sh i then value i else 0

/-- The clamped GRAD fraction `kc`: a NaN and a negative fraction to 0, one above 1 to 1, -0.0 to itself (42_color.md R214). -/
def clampFraction (k : FVal) : FVal :=
  if k = .nan then .fin false 0
  else if belowZero k then .fin false 0
  else if aboveOne b64 k then fone b64
  else k

/-- The floor of a value that is not negative. -/
def floorVal : FVal → Nat
  | .fin _ m => m / 2 ^ b64.unitExp
  | _ => 0

/-- An integer as a binary64 value. -/
def ofNat64 (n : Nat) : FVal := .fin false (n * 2 ^ b64.unitExp)

/-- 0.5 in binary64. -/
def half64 : FVal := .fin false (2 ^ (b64.unitExp - 1))

/-- `ik_W = floor(rn64(rn64(kc * max_W) + 0.5))` (42_color.md R214). -/
def gradInt (W : Nat) (k : FVal) : Nat :=
  floorVal (fadd b64 (fmul b64 (clampFraction k) (ofNat64 (maxW W))) half64)

/-- `kf = rn32(kc)` (42_color.md R214). -/
def gradF32 (k : FVal) : FVal := fconvert b64 b32 (clampFraction k)

end Sys2Proof.Machine
end

