-- ==== Sys2Proof/Machine/Flags.lean ====
section
/-! DEFINITION. PXA has no arithmetic flags and no condition codes (10_state.md R44): its only status bits are ERR_ILL of each
context and the two LUT state bits, read through CSTATUS and GSTATUS, and the configuration fields of GINFO. -/

namespace Sys2Proof.Machine

/-- A status bit as a word with that bit in place n. -/
def flagBit (b : Bool) (n : Nat) : Word := if b then BitVec.ofNat 32 (2 ^ n) else 0

/-- GSTATUS: bit 0 LUT_VALID, bit 1 LUT_BUSY, the rest 0 (10_state.md R33). -/
def gstatusWord (l : LState) : Word := flagBit (l == .valid) 0 ||| flagBit (l == .busy) 1

/-- CSTATUS: bit 0 ERR_ILL, the rest 0 (R38). -/
def cstatusWord (c : Context) : Word := flagBit c.errIll 0

/-- ID (R31). -/
def idWord : Word := 0x41470010

/-- GINFO: NCTX in [3:0], SPEC_REV = 1 in [11:8], GAMMA_PRESENT in [12], the rest 0 (R32). -/
def ginfoWord (s : State) : Word :=
  BitVec.ofNat 32 (s.contexts.length % 16) ||| 0x100 ||| flagBit s.gammaPresent 12

end Sys2Proof.Machine
end

