-- ==== Sys2Proof/Machine/Tables.lean ====
section
/-! DEFINITION. The contents of the four sRGB lookup tables, as 41_srgb.md R173-R176 list them (93 I9: "the model may hold
the 1024 table entries literally"). Log 10. -/

namespace Sys2Proof.Machine

/-- The entries of S2L8, 16 to a row (41_srgb.md R173). -/
def s2l8Rows : List (List Nat) := [
  [0, 0, 0, 0, 0, 0, 0, 1, 1, 1, 1, 1, 1, 1, 1, 1],
  [1, 1, 2, 2, 2, 2, 2, 2, 2, 2, 3, 3, 3, 3, 3, 3],
  [4, 4, 4, 4, 4, 5, 5, 5, 5, 6, 6, 6, 6, 7, 7, 7],
  [8, 8, 8, 8, 9, 9, 9, 10, 10, 10, 11, 11, 12, 12, 12, 13],
  [13, 13, 14, 14, 15, 15, 16, 16, 17, 17, 17, 18, 18, 19, 19, 20],
  [20, 21, 22, 22, 23, 23, 24, 24, 25, 25, 26, 27, 27, 28, 29, 29],
  [30, 30, 31, 32, 32, 33, 34, 35, 35, 36, 37, 37, 38, 39, 40, 41],
  [41, 42, 43, 44, 45, 45, 46, 47, 48, 49, 50, 51, 51, 52, 53, 54],
  [55, 56, 57, 58, 59, 60, 61, 62, 63, 64, 65, 66, 67, 68, 69, 70],
  [71, 72, 73, 74, 76, 77, 78, 79, 80, 81, 82, 84, 85, 86, 87, 88],
  [90, 91, 92, 93, 95, 96, 97, 99, 100, 101, 103, 104, 105, 107, 108, 109],
  [111, 112, 114, 115, 116, 118, 119, 121, 122, 124, 125, 127, 128, 130, 131, 133],
  [134, 136, 138, 139, 141, 142, 144, 146, 147, 149, 151, 152, 154, 156, 157, 159],
  [161, 163, 164, 166, 168, 170, 171, 173, 175, 177, 179, 181, 183, 184, 186, 188],
  [190, 192, 194, 196, 198, 200, 202, 204, 206, 208, 210, 212, 214, 216, 218, 220],
  [222, 224, 226, 229, 231, 233, 235, 237, 239, 242, 244, 246, 248, 250, 253, 255]]

/-- S2L8 (41_srgb.md R173). -/
def s2l8Table : Vector (BitVec 8) 256 := ⟨⟨s2l8Rows.flatten.map (BitVec.ofNat 8)⟩, by decide +kernel⟩

/-- The entries of L2S8, 16 to a row (41_srgb.md R174). -/
def l2s8Rows : List (List Nat) := [
  [0, 13, 22, 28, 34, 38, 42, 46, 50, 53, 56, 59, 61, 64, 66, 69],
  [71, 73, 75, 77, 79, 81, 83, 85, 86, 88, 90, 92, 93, 95, 96, 98],
  [99, 101, 102, 104, 105, 106, 108, 109, 110, 112, 113, 114, 115, 117, 118, 119],
  [120, 121, 122, 124, 125, 126, 127, 128, 129, 130, 131, 132, 133, 134, 135, 136],
  [137, 138, 139, 140, 141, 142, 143, 144, 145, 146, 147, 148, 148, 149, 150, 151],
  [152, 153, 154, 155, 155, 156, 157, 158, 159, 159, 160, 161, 162, 163, 163, 164],
  [165, 166, 167, 167, 168, 169, 170, 170, 171, 172, 173, 173, 174, 175, 175, 176],
  [177, 178, 178, 179, 180, 180, 181, 182, 182, 183, 184, 185, 185, 186, 187, 187],
  [188, 189, 189, 190, 190, 191, 192, 192, 193, 194, 194, 195, 196, 196, 197, 197],
  [198, 199, 199, 200, 200, 201, 202, 202, 203, 203, 204, 205, 205, 206, 206, 207],
  [208, 208, 209, 209, 210, 210, 211, 212, 212, 213, 213, 214, 214, 215, 215, 216],
  [216, 217, 218, 218, 219, 219, 220, 220, 221, 221, 222, 222, 223, 223, 224, 224],
  [225, 226, 226, 227, 227, 228, 228, 229, 229, 230, 230, 231, 231, 232, 232, 233],
  [233, 234, 234, 235, 235, 236, 236, 237, 237, 238, 238, 238, 239, 239, 240, 240],
  [241, 241, 242, 242, 243, 243, 244, 244, 245, 245, 246, 246, 246, 247, 247, 248],
  [248, 249, 249, 250, 250, 251, 251, 251, 252, 252, 253, 253, 254, 254, 255, 255]]

/-- L2S8 (41_srgb.md R174). -/
def l2s8Table : Vector (BitVec 8) 256 := ⟨⟨l2s8Rows.flatten.map (BitVec.ofNat 8)⟩, by decide +kernel⟩

/-- The entries of S2LF, 8 to a row (41_srgb.md R175). -/
def s2lfRows : List (List Nat) := [
  [0x00000000, 0x399F22B4, 0x3A1F22B4, 0x3A6EB40E, 0x3A9F22B4, 0x3AC6EB61, 0x3AEEB40E, 0x3B0B3E5D],
  [0x3B1F22B4, 0x3B33070A, 0x3B46EB61, 0x3B5B518E, 0x3B70F18F, 0x3B83E1C6, 0x3B8FE616, 0x3B9C87FD],
  [0x3BA9C9B6, 0x3BB7AD6F, 0x3BC6354A, 0x3BD56360, 0x3BE539C1, 0x3BF5BA71, 0x3C0373B6, 0x3C0C6153],
  [0x3C15A705, 0x3C1F45BE, 0x3C293E6B, 0x3C3391F7, 0x3C3E4149, 0x3C494D44, 0x3C54B6C9, 0x3C607EB4],
  [0x3C6CA5DF, 0x3C792D22, 0x3C830AA9, 0x3C89AF9F, 0x3C9085DC, 0x3C978DC6, 0x3C9EC7C2, 0x3CA63433],
  [0x3CADD37D, 0x3CB5A602, 0x3CBDAC21, 0x3CC5E63A, 0x3CCE54AC, 0x3CD6F7D5, 0x3CDFD010, 0x3CE8DDBA],
  [0x3CF2212D, 0x3CFB9AC3, 0x3D02A56A, 0x3D0798DD, 0x3D0CA7E6, 0x3D11D2AF, 0x3D171964, 0x3D1C7C30],
  [0x3D21FB3C, 0x3D2796B2, 0x3D2D4EBB, 0x3D332381, 0x3D39152B, 0x3D3F23E4, 0x3D454FD2, 0x3D4B991D],
  [0x3D51FFEC, 0x3D588468, 0x3D5F26B6, 0x3D65E6FD, 0x3D6CC563, 0x3D73C20E, 0x3D7ADD24, 0x3D810B65],
  [0x3D84B793, 0x3D88732E, 0x3D8C3E48, 0x3D9018F4, 0x3D940344, 0x3D97FD49, 0x3D9C0715, 0x3DA020BA],
  [0x3DA44A4A, 0x3DA883D6, 0x3DACCD6F, 0x3DB12727, 0x3DB5910F, 0x3DBA0B38, 0x3DBE95B3, 0x3DC33090],
  [0x3DC7DBE0, 0x3DCC97B4, 0x3DD1641D, 0x3DD6412B, 0x3DDB2EEE, 0x3DE02D76, 0x3DE53CD4, 0x3DEA5D18],
  [0x3DEF8E51, 0x3DF4D090, 0x3DFA23E5, 0x3DFF885E, 0x3E027F06, 0x3E05427F, 0x3E080EA2, 0x3E0AE377],
  [0x3E0DC104, 0x3E10A753, 0x3E13966A, 0x3E168E51, 0x3E198F0F, 0x3E1C98AC, 0x3E1FAB30, 0x3E22C6A1],
  [0x3E25EB07, 0x3E29186A, 0x3E2C4ED0, 0x3E2F8E42, 0x3E32D6C5, 0x3E362862, 0x3E39831F, 0x3E3CE703],
  [0x3E405417, 0x3E43CA60, 0x3E4749E6, 0x3E4AD2AF, 0x3E4E64C3, 0x3E520029, 0x3E55A4E7, 0x3E595305],
  [0x3E5D0A89, 0x3E60CB7A, 0x3E6495DF, 0x3E6869BE, 0x3E6C471F, 0x3E702E07, 0x3E741E7E, 0x3E78188B],
  [0x3E7C1C33, 0x3E8014BF, 0x3E822039, 0x3E84308B, 0x3E8645B8, 0x3E885FC3, 0x3E8A7EB0, 0x3E8CA281],
  [0x3E8ECB3B, 0x3E90F8DF, 0x3E932B72, 0x3E9562F6, 0x3E979F6F, 0x3E99E0E0, 0x3E9C274C, 0x3E9E72B6],
  [0x3EA0C321, 0x3EA31890, 0x3EA57307, 0x3EA7D288, 0x3EAA3716, 0x3EACA0B6, 0x3EAF0F68, 0x3EB18332],
  [0x3EB3FC15, 0x3EB67A14, 0x3EB8FD34, 0x3EBB8576, 0x3EBE12DE, 0x3EC0A56E, 0x3EC33D2A, 0x3EC5DA14],
  [0x3EC87C30, 0x3ECB2380, 0x3ECDD008, 0x3ED081CA, 0x3ED338C9, 0x3ED5F508, 0x3ED8B68A, 0x3EDB7D52],
  [0x3EDE4963, 0x3EE11ABF, 0x3EE3F169, 0x3EE6CD65, 0x3EE9AEB5, 0x3EEC955B, 0x3EEF815C, 0x3EF272B8],
  [0x3EF56974, 0x3EF86593, 0x3EFB6716, 0x3EFE6E00, 0x3F00BD2B, 0x3F02460C, 0x3F03D1A5, 0x3F055FF7],
  [0x3F06F104, 0x3F0884CD, 0x3F0A1B54, 0x3F0BB499, 0x3F0D509F, 0x3F0EEF65, 0x3F1090EF, 0x3F12353D],
  [0x3F13DC50, 0x3F15862A, 0x3F1732CC, 0x3F18E237, 0x3F1A946E, 0x3F1C4970, 0x3F1E0140, 0x3F1FBBDE],
  [0x3F21794D, 0x3F23398C, 0x3F24FC9F, 0x3F26C285, 0x3F288B41, 0x3F2A56D2, 0x3F2C253C, 0x3F2DF67F],
  [0x3F2FCA9C, 0x3F31A194, 0x3F337B6A, 0x3F35581D, 0x3F3737B0, 0x3F391A24, 0x3F3AFF7A, 0x3F3CE7B2],
  [0x3F3ED2CF, 0x3F40C0D2, 0x3F42B1BC, 0x3F44A58E, 0x3F469C49, 0x3F4895EF, 0x3F4A9280, 0x3F4C91FF],
  [0x3F4E946C, 0x3F5099C9, 0x3F52A216, 0x3F54AD56, 0x3F56BB88, 0x3F58CCAF, 0x3F5AE0CC, 0x3F5CF7DF],
  [0x3F5F11EA, 0x3F612EEF, 0x3F634EEE, 0x3F6571E9, 0x3F6797E0, 0x3F69C0D5, 0x3F6BECCA, 0x3F6E1BBF],
  [0x3F704DB5, 0x3F7282AE, 0x3F74BAAB, 0x3F76F5AE, 0x3F7933B6, 0x3F7B74C6, 0x3F7DB8DE, 0x3F800000]]

/-- S2LF (41_srgb.md R175). -/
def s2lfTable : Vector (BitVec 32) 256 := ⟨⟨s2lfRows.flatten.map (BitVec.ofNat 32)⟩, by decide +kernel⟩

/-- The entries of L2SF, 8 to a row (41_srgb.md R176). -/
def l2sfRows : List (List Nat) := [
  [0x00000000, 0x3D4C251F, 0x3DADF781, 0x3DE2B7C3, 0x3E06F794, 0x3E199AF7, 0x3E2A2C96, 0x3E3932FA],
  [0x3E470484, 0x3E53DC7A, 0x3E5FE58E, 0x3E6B3FAD, 0x3E760371, 0x3E802221, 0x3E8508E1, 0x3E89BC5D],
  [0x3E8E41E7, 0x3E929DF7, 0x3E96D45A, 0x3E9AE855, 0x3E9EDCBA, 0x3EA2B401, 0x3EA67054, 0x3EAA139F],
  [0x3EAD9F95, 0x3EB115BB, 0x3EB47770, 0x3EB7C5EE, 0x3EBB0253, 0x3EBE2DA2, 0x3EC148C9, 0x3EC4549E],
  [0x3EC751EA, 0x3ECA4161, 0x3ECD23AE, 0x3ECFF96A, 0x3ED2C327, 0x3ED5816B, 0x3ED834B2, 0x3EDADD72],
  [0x3EDD7C15, 0x3EE01103, 0x3EE29C9A, 0x3EE51F34, 0x3EE79925, 0x3EEA0ABC, 0x3EEC7445, 0x3EEED605],
  [0x3EF13040, 0x3EF38335, 0x3EF5CF1E, 0x3EF81436, 0x3EFA52B2, 0x3EFC8AC5, 0x3EFEBCA1, 0x3F007439],
  [0x3F018734, 0x3F029754, 0x3F03A4B0, 0x3F04AF59, 0x3F05B763, 0x3F06BCDE, 0x3F07BFDD, 0x3F08C06E],
  [0x3F09BEA3, 0x3F0ABA88, 0x3F0BB42E, 0x3F0CABA1, 0x3F0DA0EF, 0x3F0E9425, 0x3F0F854E, 0x3F107477],
  [0x3F1161AB, 0x3F124CF5, 0x3F133660, 0x3F141DF5, 0x3F1503BF, 0x3F15E7C8, 0x3F16CA17, 0x3F17AAB7],
  [0x3F1889B0, 0x3F19670A, 0x3F1A42CE, 0x3F1B1D03, 0x3F1BF5B0, 0x3F1CCCDE, 0x3F1DA293, 0x3F1E76D6],
  [0x3F1F49AE, 0x3F201B21, 0x3F20EB36, 0x3F21B9F3, 0x3F22875E, 0x3F23537C, 0x3F241E54, 0x3F24E7EA],
  [0x3F25B044, 0x3F267768, 0x3F273D5A, 0x3F28021F, 0x3F28C5BD, 0x3F298837, 0x3F2A4992, 0x3F2B09D3],
  [0x3F2BC8FE, 0x3F2C8717, 0x3F2D4423, 0x3F2E0025, 0x3F2EBB22, 0x3F2F751C, 0x3F302E19, 0x3F30E61B],
  [0x3F319D26, 0x3F32533D, 0x3F330865, 0x3F33BCA0, 0x3F346FF1, 0x3F35225D, 0x3F35D3E5, 0x3F36848C],
  [0x3F373457, 0x3F37E348, 0x3F389161, 0x3F393EA5, 0x3F39EB18, 0x3F3A96BC, 0x3F3B4193, 0x3F3BEB9F],
  [0x3F3C94E5, 0x3F3D3D65, 0x3F3DE523, 0x3F3E8C20, 0x3F3F3260, 0x3F3FD7E4, 0x3F407CAE, 0x3F4120C2],
  [0x3F41C420, 0x3F4266CB, 0x3F4308C5, 0x3F43AA10, 0x3F444AAE, 0x3F44EAA2, 0x3F4589EC, 0x3F46288F],
  [0x3F46C68D, 0x3F4763E7, 0x3F4800A0, 0x3F489CB8, 0x3F493833, 0x3F49D310, 0x3F4A6D53, 0x3F4B06FD],
  [0x3F4BA00E, 0x3F4C388A, 0x3F4CD071, 0x3F4D67C6, 0x3F4DFE88, 0x3F4E94BB, 0x3F4F2A5F, 0x3F4FBF76],
  [0x3F505401, 0x3F50E802, 0x3F517B79, 0x3F520E69, 0x3F52A0D3, 0x3F5332B7, 0x3F53C418, 0x3F5454F6],
  [0x3F54E553, 0x3F557530, 0x3F56048E, 0x3F56936E, 0x3F5721D1, 0x3F57AFB9, 0x3F583D27, 0x3F58CA1C],
  [0x3F595698, 0x3F59E29E, 0x3F5A6E2E, 0x3F5AF948, 0x3F5B83EF, 0x3F5C0E23, 0x3F5C97E5, 0x3F5D2137],
  [0x3F5DAA18, 0x3F5E328B, 0x3F5EBA8F, 0x3F5F4227, 0x3F5FC952, 0x3F605012, 0x3F60D668, 0x3F615C55],
  [0x3F61E1D9, 0x3F6266F5, 0x3F62EBAB, 0x3F636FFA, 0x3F63F3E4, 0x3F64776A, 0x3F64FA8C, 0x3F657D4C],
  [0x3F65FFAA, 0x3F6681A6, 0x3F670342, 0x3F67847E, 0x3F68055C, 0x3F6885DB, 0x3F6905FC, 0x3F6985C1],
  [0x3F6A052A, 0x3F6A8438, 0x3F6B02EB, 0x3F6B8144, 0x3F6BFF43, 0x3F6C7CEA, 0x3F6CFA39, 0x3F6D7731],
  [0x3F6DF3D2, 0x3F6E701D, 0x3F6EEC12, 0x3F6F67B3, 0x3F6FE300, 0x3F705DF9, 0x3F70D89F, 0x3F7152F2],
  [0x3F71CCF4, 0x3F7246A5, 0x3F72C004, 0x3F733914, 0x3F73B1D4, 0x3F742A46, 0x3F74A269, 0x3F751A3D],
  [0x3F7591C5, 0x3F760900, 0x3F767FEE, 0x3F76F691, 0x3F776CE8, 0x3F77E2F4, 0x3F7858B7, 0x3F78CE2F],
  [0x3F79435E, 0x3F79B844, 0x3F7A2CE2, 0x3F7AA138, 0x3F7B1547, 0x3F7B890F, 0x3F7BFC90, 0x3F7C6FCB],
  [0x3F7CE2C1, 0x3F7D5571, 0x3F7DC7DD, 0x3F7E3A04, 0x3F7EABE8, 0x3F7F1D88, 0x3F7F8EE5, 0x3F800000]]

/-- L2SF (41_srgb.md R176). -/
def l2sfTable : Vector (BitVec 32) 256 := ⟨⟨l2sfRows.flatten.map (BitVec.ofNat 32)⟩, by decide +kernel⟩

/-- What the sequencer leaves in the LUT store (41_srgb.md R177; 20_memory.md R85). -/
def LutStore.tables : LutStore :=
  { s2l8 := s2l8Table, l2s8 := l2s8Table, s2lf := s2lfTable, l2sf := l2sfTable }

end Sys2Proof.Machine
end

