-- ==== Sys2Proof/Machine/Ops.lean ====
section
/-! DEFINITION. The named operations over PXA's state: contexts, the bus responses, the LUT sequencer, completing a command,
taking an IllegalCommand and leaving it, and the shared shapes of a command's meaning. -/

namespace Sys2Proof.Machine

/-- What a step or a meaning answers. -/
abbrev Result := Host.Outcome State Fault Refusal

/-- Context c. An absent context (c ≥ N_CTX) reads as one that was never written: its page reads 0 (10_state.md R43);
no reachable state issues a command on one (log 21). -/
def State.ctx (s : State) (c : Nat) : Context := s.contexts.getD c Context.reset

/-- Whether context c is one of the N_CTX (10_state.md R36, R43). -/
def State.hasCtx (s : State) (c : Nat) : Bool := (s.contexts[c]?).isSome

/-- The machine with context c replaced; an absent context is not written (10_state.md R43). -/
def State.setCtx (s : State) (c : Nat) (x : Context) : State := { s with contexts := s.contexts.set c x }

/-- The context the command was issued on. -/
def State.cur (s : State) : Context := s.ctx s.issue.ctx

/-- The machine with the issuing context replaced. -/
def State.setCur (s : State) (x : Context) : State := s.setCtx s.issue.ctx x

/-- The registers a command reads, as they stand. -/
def Context.operands (x : Context) : Operands := { a := x.a, b := x.b, k0 := x.k0, k1 := x.k1 }

/-- The operand snapshot of the command being performed: sampled when its CMD write was accepted, which for a context in
WAIT_LUT is the one it kept (20_memory.md R74, R84; 60_exceptions.md R274). -/
def State.snapshot (s : State) : Operands :=
  match s.cur.cstate with
  | .ready => s.cur.operands
  | .waitLut _ _ o => o

/-- The machine with another list of inputs before it (log 1). -/
def State.withInputs (s : State) (l : List Input) : State := { s with inputs := l }

/-- The machine with x as the CMD write being performed (log 3). -/
def State.withIssue (s : State) (x : Issue) : State := { s with issue := x }

/-- The bus answers a master. -/
def State.respond (s : State) (r : Response) : State := { s with responses := r :: s.responses }

/-- The CMD write completes (20_memory.md R78). -/
def State.completeWrite (s : State) : State := s.respond (.writeDone s.issue.master)

/-- The context with other result lanes. -/
def Context.withR (x : Context) (l : Lanes) : Context := { x with r := l }

/-- The context with another CSTATE. -/
def Context.withCState (x : Context) (st : CState) : Context := { x with cstate := st }

/-- The context with an illegal word recorded: ERRCMD keeps the first one while ERR_ILL is set (60_exceptions.md R272). -/
def Context.recordIllegal (x : Context) (w : Word) : Context :=
  { x with errcmd := if x.errIll then x.errcmd else w, errIll := true }

/-- `R[0..3] <- res[0..3]`, all four lanes at once (30_encoding.md R107, 20_memory.md R74). -/
def State.writeR (s : State) (res : Lanes) : State := s.setCur (s.cur.withR res)

/-- `CSTATE <- READY` (41_srgb.md R178). -/
def State.setReady (s : State) : State := s.setCur (s.cur.withCState .ready)

/-- TAKING AN IllegalCommand (60_exceptions.md R271, R272): ERRCMD takes the word if ERR_ILL is 0, ERR_ILL becomes 1,
nothing else changes, and the CMD write completes normally. There is no saved state, no mode and no handler (R277). -/
def State.illegalCommand (s : State) : State :=
  (s.setCur (s.cur.recordIllegal s.issue.word)).completeWrite

/-- THE RETURN from an IllegalCommand: a CSTATUS write with bit 0 set clears ERR_ILL and leaves ERRCMD; with bit 0 clear
it changes nothing (10_state.md R38, R39; 60_exceptions.md R278). -/
def Context.writeCstatus (x : Context) (v : Word) : Context := if v.getLsbD 0 then { x with errIll := false } else x

/-- `LSTATE <- BUSY` if it is IDLE: the sequencer starts; while BUSY or VALID a trigger has no effect
(10_state.md R34, R46; 41_srgb.md R177, R178). -/
def State.startSequencer (s : State) : State :=
  match s.lstate with
  | .idle => { s with lstate := .busy, seqCycle := 0 }
  | .busy | .valid => s

/-- One entry of a table while the sequencer is writing: written or not yet, in any order (41_srgb.md R177; 93 I2). -/
def fillTable {w : Nat} (written : Nat → Bool) (base : Nat) (final old : Vector (BitVec w) 256) : Vector (BitVec w) 256 :=
  Vector.ofFn fun i => if written (base + i.val) then final[i] else old[i]

/-- The LUT store with the entries that `written` names filled in (41_srgb.md R177). -/
def LutStore.fill (written : Nat → Bool) (l : LutStore) : LutStore :=
  { s2l8 := fillTable written 0 LutStore.tables.s2l8 l.s2l8
    l2s8 := fillTable written 256 LutStore.tables.l2s8 l.l2s8
    s2lf := fillTable written 512 LutStore.tables.s2lf l.s2lf
    l2sf := fillTable written 768 LutStore.tables.l2sf l.l2sf }

/-- One cycle of the initialisation sequencer (41_srgb.md R177): while BUSY it fills in entries; in cycle T_INIT it has
written every entry and sets LSTATE to VALID. While IDLE or VALID it does nothing. Log 11, log 12. -/
def State.sequencerCycle (s : State) : State :=
  match s.lstate with
  | .busy =>
    if Config.tInit ≤ s.seqCycle + 1 then { s with lut := LutStore.tables, lstate := .valid, seqCycle := s.seqCycle + 1 }
    else { s with lut := LutStore.fill (Config.lutWritten (s.seqCycle + 1)) s.lut, seqCycle := s.seqCycle + 1 }
  | .idle | .valid => s

/-- `CSTATE <- WAIT_LUT`, with what the context keeps while it waits (10_state.md R47, 41_srgb.md R178); a context that
already waits goes on with what it keeps. -/
def State.waitLut (s : State) (i : Instr) : State :=
  s.setCur (s.cur.withCState (.waitLut s.issue.master i s.snapshot))

/-- A command that computes its result lanes from the operand snapshot alone: R is written and the CMD write completes
(60_exceptions.md R274). -/
def compute (f : Operands → Lanes) (s : State) : Result := .next (s.writeR (f s.snapshot)).completeWrite

/-- A LUT-reading command (41_srgb.md R178): while LSTATE is not VALID it starts the sequencer if need be and waits, its
CMD write incomplete; with LSTATE VALID it reads the store, writes R, leaves WAIT_LUT and completes the write. -/
def computeLut (i : Instr) (f : LutStore → Operands → Lanes) (s : State) : Result :=
  .next (match s.lstate with
    | .valid => ((s.writeR (f s.lut s.snapshot)).setReady).completeWrite
    | .idle | .busy => s.startSequencer.waitLut i)

/-- A gamma command (43_gamma.md R250): with no provider attached it is illegal (30_encoding.md R108 (5)). -/
def computeGamma (f : Config.GammaProvider → Operands → Lanes) (s : State) : Result :=
  .next (if s.gammaPresent then (s.writeR (f Config.gamma s.snapshot)).completeWrite else s.illegalCommand)

/-- The master whose CMD write on this context is incomplete (20_memory.md R78). -/
def Context.heldMaster (x : Context) : Option Nat :=
  match x.cstate with
  | .ready => none
  | .waitLut m _ _ => some m

/-- The bus's answer to a master whose CMD write a reset abandons: a completion, a failure, or none (R302; 93 I15). Log 16. -/
def abandonedAnswer (n m : Nat) : Option Response :=
  match Config.abandonEnd n m with
  | .silent => none
  | .done => some (.writeDone m)
  | .failed => some (.writeFailed m)

/-- The bus's answers to the masters whose CMD writes a reset abandons. -/
def State.abandonedAnswers (s : State) : List Response :=
  (s.contexts.filterMap Context.heldMaster).filterMap (abandonedAnswer s.responses.length)

/-- Reset of PXA (70_reset_and_hazards.md R300, R302): every piece of state at its reset value, an incomplete command
abandoned, writing no R lane. The configuration and what stands on the bus are no state of PXA: they stay (log 16). -/
def State.resetInput (s : State) : State :=
  { s with
    contexts := s.contexts.map fun _ => Context.reset
    lstate := .idle
    lut := LutStore.unspecified
    seqCycle := 0
    issue := State.reset.issue
    responses := s.abandonedAnswers ++ s.responses }

end Sys2Proof.Machine
end

