-- ==== Sys2Proof/Machine/Color.lean ====
section
/-! DEFINITION. The colour commands PREMUL, DEMUL, GRAD and ADD (42_color.md R210-R218). -/

namespace Sys2Proof.Machine

/-- One channel premultiplied by the alpha al (R210). -/
def premulChannel (W c al : Nat) : Nat := if al = 0 then 0 else if al = maxW W then c else mulW W c al

/-- PREMUL on integers; RGB has full alpha, so its value lanes pass (R210). -/
def premulInt (W : Nat) (sh : Shape) (o : Operands) : Lanes :=
  let al := if hasAlpha sh then lin W o.a.l3 else maxW W
  byShape sh (fun i => out (premulChannel W (lin W (Lanes.get o.a i)) al)) (out (lin W o.a.l3))

/-- One binary32 channel premultiplied by al; at alpha 1.0 its bits are copied (R211). -/
def premulChannelF (c : Word) (al : FVal) : Word :=
  if isZero al then 0 else if isOne b32 al then c else canonBits32 (mulF (f32 c) al)

/-- PREMUL on binary32; the alpha lane is copied bit for bit (R211). -/
def premulF32 (sh : Shape) (o : Operands) : Lanes :=
  let al := if hasAlpha sh then f32 o.a.l3 else fone b32
  byShape sh (fun i => premulChannelF (Lanes.get o.a i) al) o.a.l3

/-- One channel divided by the alpha al, truncated and saturated (R212). -/
def demulChannel (W c al : Nat) : Nat :=
  if al = 0 then 0 else if al = maxW W then c else min (c * maxW W / al) (maxW W)

/-- DEMUL on integers (R212). -/
def demulInt (W : Nat) (sh : Shape) (o : Operands) : Lanes :=
  let al := if hasAlpha sh then lin W o.a.l3 else maxW W
  byShape sh (fun i => out (demulChannel W (lin W (Lanes.get o.a i)) al)) (out (lin W o.a.l3))

/-- An arithmetic binary32 result saturated at 1.0 from above only (R213, R218; 92 D25). -/
def saturateOne (r : FVal) : Word := if aboveOne b32 r then 0x3F800000 else canonBits32 r

/-- One binary32 channel divided by al (R213). -/
def demulChannelF (c : Word) (al : FVal) : Word :=
  if isZero al then 0 else if isOne b32 al then c else saturateOne (fdiv b32 (f32 c) al)

/-- DEMUL on binary32 (R213). -/
def demulF32 (sh : Shape) (o : Operands) : Lanes :=
  let al := if hasAlpha sh then f32 o.a.l3 else fone b32
  byShape sh (fun i => demulChannelF (Lanes.get o.a i) al) o.a.l3

/-- GRAD on integers: lerp by ik on every used lane, alpha too (R215). -/
def gradIntLanes (W : Nat) (sh : Shape) (o : Operands) : Lanes :=
  let ik := gradInt W (kF64 o)
  byUsed sh fun i => out (lerpW W (lin W (Lanes.get o.a i)) (lin W (Lanes.get o.b i)) ik)

/-- GRAD on binary32: lerpF by kf on every used lane (R216). -/
def gradF32Lanes (sh : Shape) (o : Operands) : Lanes :=
  let kf := gradF32 (kF64 o)
  byUsed sh fun i => canonBits32 (lerpF (f32 (Lanes.get o.a i)) (f32 (Lanes.get o.b i)) kf)

/-- ADD on integers: a replace where coverage and B's alpha are full, otherwise a saturating add (R217). -/
def addInt (W : Nat) (sh : Shape) (o : Operands) : Lanes :=
  let cover := kCover o
  let ba := if hasAlpha sh then lin W o.b.l3 else maxW W
  byUsed sh fun i =>
    let b := lin W (Lanes.get o.b i)
    if cover = 255 ∧ ba = maxW W then out b
    else out (min (lin W (Lanes.get o.a i) + (if cover = 255 then b else multCoverW W b cover)) (maxW W))

/-- ADD on binary32: a replace copies B bit for bit, otherwise an add saturated at 1.0 from above (R218). -/
def addF32 (sh : Shape) (o : Operands) : Lanes :=
  let cover := kCover o
  let ba := if hasAlpha sh then f32 o.b.l3 else fone b32
  byUsed sh fun i =>
    if cover = 255 ∧ isOne b32 ba then Lanes.get o.b i
    else
      let b := f32 (Lanes.get o.b i)
      saturateOne (fadd b32 (f32 (Lanes.get o.a i)) (if cover = 255 then b else mulF b (covF cover)))

/-- PREMUL.U8.GA, word 0x00000110 (42_color.md R210). -/
def execPremulU8Ga (s : State) : Result := compute (premulInt 8 .ga) s

/-- PREMUL.U8.RGB, word 0x00000210 (42_color.md R210). -/
def execPremulU8Rgb (s : State) : Result := compute (premulInt 8 .rgb) s

/-- PREMUL.U8.RGBA, word 0x00000310 (42_color.md R210). -/
def execPremulU8Rgba (s : State) : Result := compute (premulInt 8 .rgba) s

/-- PREMUL.U16.GA, word 0x00000150 (42_color.md R210). -/
def execPremulU16Ga (s : State) : Result := compute (premulInt 16 .ga) s

/-- PREMUL.U16.RGB, word 0x00000250 (42_color.md R210). -/
def execPremulU16Rgb (s : State) : Result := compute (premulInt 16 .rgb) s

/-- PREMUL.U16.RGBA, word 0x00000350 (42_color.md R210). -/
def execPremulU16Rgba (s : State) : Result := compute (premulInt 16 .rgba) s

/-- PREMUL.F32.GA, word 0x00000190 (42_color.md R211). -/
def execPremulF32Ga (s : State) : Result := compute (premulF32 .ga) s

/-- PREMUL.F32.RGB, word 0x00000290 (42_color.md R211). -/
def execPremulF32Rgb (s : State) : Result := compute (premulF32 .rgb) s

/-- PREMUL.F32.RGBA, word 0x00000390 (42_color.md R211). -/
def execPremulF32Rgba (s : State) : Result := compute (premulF32 .rgba) s

/-- DEMUL.U8.GA, word 0x00000111 (42_color.md R212). -/
def execDemulU8Ga (s : State) : Result := compute (demulInt 8 .ga) s

/-- DEMUL.U8.RGB, word 0x00000211 (42_color.md R212). -/
def execDemulU8Rgb (s : State) : Result := compute (demulInt 8 .rgb) s

/-- DEMUL.U8.RGBA, word 0x00000311 (42_color.md R212). -/
def execDemulU8Rgba (s : State) : Result := compute (demulInt 8 .rgba) s

/-- DEMUL.U16.GA, word 0x00000151 (42_color.md R212). -/
def execDemulU16Ga (s : State) : Result := compute (demulInt 16 .ga) s

/-- DEMUL.U16.RGB, word 0x00000251 (42_color.md R212). -/
def execDemulU16Rgb (s : State) : Result := compute (demulInt 16 .rgb) s

/-- DEMUL.U16.RGBA, word 0x00000351 (42_color.md R212). -/
def execDemulU16Rgba (s : State) : Result := compute (demulInt 16 .rgba) s

/-- DEMUL.F32.GA, word 0x00000191 (42_color.md R213). -/
def execDemulF32Ga (s : State) : Result := compute (demulF32 .ga) s

/-- DEMUL.F32.RGB, word 0x00000291 (42_color.md R213). -/
def execDemulF32Rgb (s : State) : Result := compute (demulF32 .rgb) s

/-- DEMUL.F32.RGBA, word 0x00000391 (42_color.md R213). -/
def execDemulF32Rgba (s : State) : Result := compute (demulF32 .rgba) s

/-- GRAD.U8, word 0x00000012 (42_color.md R215). -/
def execGradU8 (s : State) : Result := compute (gradIntLanes 8 .v4) s

/-- GRAD.U8.GA, word 0x00000112 (42_color.md R215). -/
def execGradU8Ga (s : State) : Result := compute (gradIntLanes 8 .ga) s

/-- GRAD.U8.RGB, word 0x00000212 (42_color.md R215). -/
def execGradU8Rgb (s : State) : Result := compute (gradIntLanes 8 .rgb) s

/-- GRAD.U8.RGBA, word 0x00000312 (42_color.md R215). -/
def execGradU8Rgba (s : State) : Result := compute (gradIntLanes 8 .rgba) s

/-- GRAD.U16, word 0x00000052 (42_color.md R215). -/
def execGradU16 (s : State) : Result := compute (gradIntLanes 16 .v4) s

/-- GRAD.U16.GA, word 0x00000152 (42_color.md R215). -/
def execGradU16Ga (s : State) : Result := compute (gradIntLanes 16 .ga) s

/-- GRAD.U16.RGB, word 0x00000252 (42_color.md R215). -/
def execGradU16Rgb (s : State) : Result := compute (gradIntLanes 16 .rgb) s

/-- GRAD.U16.RGBA, word 0x00000352 (42_color.md R215). -/
def execGradU16Rgba (s : State) : Result := compute (gradIntLanes 16 .rgba) s

/-- GRAD.F32, word 0x00000092 (42_color.md R216). -/
def execGradF32 (s : State) : Result := compute (gradF32Lanes .v4) s

/-- GRAD.F32.GA, word 0x00000192 (42_color.md R216). -/
def execGradF32Ga (s : State) : Result := compute (gradF32Lanes .ga) s

/-- GRAD.F32.RGB, word 0x00000292 (42_color.md R216). -/
def execGradF32Rgb (s : State) : Result := compute (gradF32Lanes .rgb) s

/-- GRAD.F32.RGBA, word 0x00000392 (42_color.md R216). -/
def execGradF32Rgba (s : State) : Result := compute (gradF32Lanes .rgba) s

/-- ADD.U8.GA, word 0x00000113 (42_color.md R217). -/
def execAddU8Ga (s : State) : Result := compute (addInt 8 .ga) s

/-- ADD.U8.RGB, word 0x00000213 (42_color.md R217). -/
def execAddU8Rgb (s : State) : Result := compute (addInt 8 .rgb) s

/-- ADD.U8.RGBA, word 0x00000313 (42_color.md R217). -/
def execAddU8Rgba (s : State) : Result := compute (addInt 8 .rgba) s

/-- ADD.U16.GA, word 0x00000153 (42_color.md R217). -/
def execAddU16Ga (s : State) : Result := compute (addInt 16 .ga) s

/-- ADD.U16.RGB, word 0x00000253 (42_color.md R217). -/
def execAddU16Rgb (s : State) : Result := compute (addInt 16 .rgb) s

/-- ADD.U16.RGBA, word 0x00000353 (42_color.md R217). -/
def execAddU16Rgba (s : State) : Result := compute (addInt 16 .rgba) s

/-- ADD.F32.GA, word 0x00000193 (42_color.md R218). -/
def execAddF32Ga (s : State) : Result := compute (addF32 .ga) s

/-- ADD.F32.RGB, word 0x00000293 (42_color.md R218). -/
def execAddF32Rgb (s : State) : Result := compute (addF32 .rgb) s

/-- ADD.F32.RGBA, word 0x00000393 (42_color.md R218). -/
def execAddF32Rgba (s : State) : Result := compute (addF32 .rgba) s

end Sys2Proof.Machine
end

