-- ==== Sys2Proof/Machine/Gamma.lean ====
section
/-! DEFINITION. The gamma commands GDIR, GINV, GDIR16 and GINV16 (43_gamma.md R250-R256): reads of the provider port. Alpha
never goes to the provider; a float result passes unchanged, an integer one is cut to its range. -/

namespace Sys2Proof.Machine

/-- GDIR.U8 (R251). -/
def gdirU8 (sh : Shape) (g : Config.GammaProvider) (o : Operands) : Lanes :=
  byShape sh (fun i => g.dir8 ((Lanes.get o.a i).extractLsb' 0 8) &&& 0xFF) (out (lin 8 o.a.l3))

/-- GDIR.F32 (R252). -/
def gdirF32 (sh : Shape) (g : Config.GammaProvider) (o : Operands) : Lanes :=
  byShape sh (fun i => g.dirF (Lanes.get o.a i)) o.a.l3

/-- GINV.U8 (R253). -/
def ginvU8 (sh : Shape) (g : Config.GammaProvider) (o : Operands) : Lanes :=
  byShape sh (fun i => g.inv8 ((Lanes.get o.a i).extractLsb' 0 8) &&& 0xFF) (out (lin 8 o.a.l3))

/-- GINV.F32 (R254). -/
def ginvF32 (sh : Shape) (g : Config.GammaProvider) (o : Operands) : Lanes :=
  byShape sh (fun i => g.invF (Lanes.get o.a i)) o.a.l3

/-- GDIR16 (R255). -/
def gdir16Lanes (g : Config.GammaProvider) (o : Operands) : Lanes :=
  Lanes.ofFn fun i => g.dir16 ((Lanes.get o.a i).extractLsb' 0 8) &&& 0xFFFF

/-- GINV16 (R256). -/
def ginv16Lanes (g : Config.GammaProvider) (o : Operands) : Lanes :=
  Lanes.ofFn fun i => g.inv16 ((Lanes.get o.a i).extractLsb' 0 16) &&& 0xFF

/-- GDIR.U8, word 0x00000018 (43_gamma.md R251). -/
def execGdirU8 (s : State) : Result := computeGamma (gdirU8 .v4) s

/-- GDIR.U8.GA, word 0x00000118 (43_gamma.md R251). -/
def execGdirU8Ga (s : State) : Result := computeGamma (gdirU8 .ga) s

/-- GDIR.U8.RGB, word 0x00000218 (43_gamma.md R251). -/
def execGdirU8Rgb (s : State) : Result := computeGamma (gdirU8 .rgb) s

/-- GDIR.U8.RGBA, word 0x00000318 (43_gamma.md R251). -/
def execGdirU8Rgba (s : State) : Result := computeGamma (gdirU8 .rgba) s

/-- GDIR.F32, word 0x00000098 (43_gamma.md R252). -/
def execGdirF32 (s : State) : Result := computeGamma (gdirF32 .v4) s

/-- GDIR.F32.GA, word 0x00000198 (43_gamma.md R252). -/
def execGdirF32Ga (s : State) : Result := computeGamma (gdirF32 .ga) s

/-- GDIR.F32.RGB, word 0x00000298 (43_gamma.md R252). -/
def execGdirF32Rgb (s : State) : Result := computeGamma (gdirF32 .rgb) s

/-- GDIR.F32.RGBA, word 0x00000398 (43_gamma.md R252). -/
def execGdirF32Rgba (s : State) : Result := computeGamma (gdirF32 .rgba) s

/-- GINV.U8, word 0x00000019 (43_gamma.md R253). -/
def execGinvU8 (s : State) : Result := computeGamma (ginvU8 .v4) s

/-- GINV.U8.GA, word 0x00000119 (43_gamma.md R253). -/
def execGinvU8Ga (s : State) : Result := computeGamma (ginvU8 .ga) s

/-- GINV.U8.RGB, word 0x00000219 (43_gamma.md R253). -/
def execGinvU8Rgb (s : State) : Result := computeGamma (ginvU8 .rgb) s

/-- GINV.U8.RGBA, word 0x00000319 (43_gamma.md R253). -/
def execGinvU8Rgba (s : State) : Result := computeGamma (ginvU8 .rgba) s

/-- GINV.F32, word 0x00000099 (43_gamma.md R254). -/
def execGinvF32 (s : State) : Result := computeGamma (ginvF32 .v4) s

/-- GINV.F32.GA, word 0x00000199 (43_gamma.md R254). -/
def execGinvF32Ga (s : State) : Result := computeGamma (ginvF32 .ga) s

/-- GINV.F32.RGB, word 0x00000299 (43_gamma.md R254). -/
def execGinvF32Rgb (s : State) : Result := computeGamma (ginvF32 .rgb) s

/-- GINV.F32.RGBA, word 0x00000399 (43_gamma.md R254). -/
def execGinvF32Rgba (s : State) : Result := computeGamma (ginvF32 .rgba) s

/-- GDIR16, word 0x0000001A (43_gamma.md R255). -/
def execGdir16 (s : State) : Result := computeGamma gdir16Lanes s

/-- GINV16, word 0x0000005B (43_gamma.md R256). -/
def execGinv16 (s : State) : Result := computeGamma ginv16Lanes s

end Sys2Proof.Machine
end

