-- ==== Sys2Proof/Machine/Scalar.lean ====
section
/-! DEFINITION. The scalar kernel commands NOP, MUL, LERP, PRELERP and MULCOV (40_kernels.md R136-R144), shape V4. -/

namespace Sys2Proof.Machine

/-- A command on lane i of A and of B, for every i. -/
def lanewise (f : Word → Word → Word) (o : Operands) : Lanes :=
  Lanes.ofFn fun i => f (Lanes.get o.a i) (Lanes.get o.b i)

/-- MUL on integers (R137). -/
def mulInt (W : Nat) (o : Operands) : Lanes := lanewise (fun a b => out (mulW W (lin W a) (lin W b))) o

/-- MUL on binary32 (R138). -/
def mulF32 (o : Operands) : Lanes := lanewise (fun a b => canonBits32 (mulF (f32 a) (f32 b))) o

/-- LERP on integers (R139). -/
def lerpIntLanes (W : Nat) (o : Operands) : Lanes :=
  lanewise (fun a b => out (lerpW W (lin W a) (lin W b) (kFrac W o))) o

/-- LERP on binary32 (R140). -/
def lerpF32 (o : Operands) : Lanes := lanewise (fun a b => canonBits32 (lerpF (f32 a) (f32 b) (kF32 o))) o

/-- PRELERP on integers (R141). -/
def prelerpInt (W : Nat) (o : Operands) : Lanes :=
  lanewise (fun a b => out (prelerpW W (lin W a) (lin W b) (kFrac W o))) o

/-- PRELERP on binary32 (R142). -/
def prelerpF32 (o : Operands) : Lanes := lanewise (fun a b => canonBits32 (prelerpF (f32 a) (f32 b) (kF32 o))) o

/-- MULCOV on integers; B is ignored (R143). -/
def mulcovInt (W : Nat) (o : Operands) : Lanes := lanewise (fun a _ => out (multCoverW W (lin W a) (kCover o))) o

/-- MULCOV on binary32; B is ignored (R144). -/
def mulcovF32 (o : Operands) : Lanes := lanewise (fun a _ => canonBits32 (multCoverF (f32 a) (kCover o))) o

/-- NOP, word 0x00000000 (40_kernels.md R136). -/
def execNop (s : State) : Result := .next s.completeWrite

/-- MUL.U8, word 0x00000001 (40_kernels.md R137). -/
def execMulU8 (s : State) : Result := compute (mulInt 8) s

/-- MUL.U16, word 0x00000041 (40_kernels.md R137). -/
def execMulU16 (s : State) : Result := compute (mulInt 16) s

/-- MUL.F32, word 0x00000081 (40_kernels.md R138). -/
def execMulF32 (s : State) : Result := compute mulF32 s

/-- LERP.U8, word 0x00000002 (40_kernels.md R139). -/
def execLerpU8 (s : State) : Result := compute (lerpIntLanes 8) s

/-- LERP.U16, word 0x00000042 (40_kernels.md R139). -/
def execLerpU16 (s : State) : Result := compute (lerpIntLanes 16) s

/-- LERP.F32, word 0x00000082 (40_kernels.md R140). -/
def execLerpF32 (s : State) : Result := compute lerpF32 s

/-- PRELERP.U8, word 0x00000003 (40_kernels.md R141). -/
def execPrelerpU8 (s : State) : Result := compute (prelerpInt 8) s

/-- PRELERP.U16, word 0x00000043 (40_kernels.md R141). -/
def execPrelerpU16 (s : State) : Result := compute (prelerpInt 16) s

/-- PRELERP.F32, word 0x00000083 (40_kernels.md R142). -/
def execPrelerpF32 (s : State) : Result := compute prelerpF32 s

/-- MULCOV.U8, word 0x00000004 (40_kernels.md R143). -/
def execMulcovU8 (s : State) : Result := compute (mulcovInt 8) s

/-- MULCOV.U16, word 0x00000044 (40_kernels.md R143). -/
def execMulcovU16 (s : State) : Result := compute (mulcovInt 16) s

/-- MULCOV.F32, word 0x00000084 (40_kernels.md R144). -/
def execMulcovF32 (s : State) : Result := compute mulcovF32 s

end Sys2Proof.Machine
end

