-- ==== Sys2Proof/Machine/SrgbCore.lean ====
section
/-! DEFINITION. The 16-bit and 8-bit conversions by the exact sRGB curve, the scalar cores of 41_srgb.md R172 on every value, and
the conversion helpers of R179. -/

namespace Sys2Proof.Machine

/-- Whether full·F(v/full), rounded half up, is at least n: n - 1/2 ≤ full·F(v/full). -/
def roundsUpTo (F : Transfer) (full v n : Nat) : Bool := leTransfer F (2 * n - 1) (2 * full) v full

/-- floor(F(v/full)·full + 0.5) of the exact real F, in 0..full: the table rounding rule of R173, R174 and R179 on a
channel of range 0..full. R172 and 93 I9: under the cores' error bound this is what the binary64 evaluation gives. Log 9. -/
def convExact (F : Transfer) (full v : Nat) : Nat := bisect (roundsUpTo F full v) 17 0 (full + 1)

/-- `conv16(v, F)` (R179). -/
def conv16 (v : Nat) (F : Transfer) : Nat := convExact F 65535 v

/-- TO_LINEAR64 or TO_SRGB64 on the positive finite values (00_scope.md R5). -/
def positiveMag : Transfer → Nat → Nat
  | .toLinear => Config.toLinear64.mag
  | .toSrgb => Config.toSrgb64.mag

/-- F at a negative argument's magnitude (R172 (4)): x / 12.92 or x * 12.92, rounded once. -/
def linearSegment (F : Transfer) (neg : Bool) (m : Nat) : FVal :=
  match F with
  | .toLinear => roundReal b64 neg (25 * m) 323
  | .toSrgb => roundReal b64 neg (323 * m) 25

/-- TO_LINEAR64 and TO_SRGB64 (R172): a NaN to a NaN, an infinity to itself, a zero to itself (log 17), a negative
value along the linear segment, a positive one by the configuration's core. -/
def transfer64 (F : Transfer) : FVal → FVal
  | .nan => .nan
  | .inf neg => .inf neg
  | .fin neg 0 => .fin neg 0
  | .fin true m => linearSegment F true m
  | .fin false m => .fin false (positiveMag F m)

/-- TO_LINEAR64 (R172). -/
def toLinear64 (x : FVal) : FVal := transfer64 .toLinear x

/-- TO_SRGB64 (R172). -/
def toSrgb64 (x : FVal) : FVal := transfer64 .toSrgb x

/-- `convF(x, F) = canon(bits32(rn32(F(x))))`, x widened exactly to binary64 (R179). -/
def convF (x : FVal) (F : Transfer) : Word := canonBits32 (fconvert b64 b32 (transfer64 F (fconvert b32 b64 x)))

end Sys2Proof.Machine
end

