-- ==== Sys2Proof/Machine/Srgb.lean ====
section
/-! DEFINITION. The sRGB conversion commands S2L, L2S, S2LT and L2ST (41_srgb.md R178-R187). Alpha is never converted. -/

namespace Sys2Proof.Machine

/-- The table index in bits [7:0] of a lane. -/
def lutIndex (x : Word) : Fin 256 := (x.extractLsb' 0 8).toFin

/-- A U8 conversion through one 8-bit table of the store; the alpha lane is masked to 8 bits (R180, R183). -/
def tableU8 (t : Vector Byte 256) (sh : Shape) (o : Operands) : Lanes :=
  byShape sh (fun i => (t[lutIndex (Lanes.get o.a i)]).setWidth 32) (out (lin 8 o.a.l3))

/-- S2L.U8: through S2L8 (R180). -/
def s2lTable (sh : Shape) (l : LutStore) (o : Operands) : Lanes := tableU8 l.s2l8 sh o

/-- L2S.U8: through L2S8 (R183). -/
def l2sTable (sh : Shape) (l : LutStore) (o : Operands) : Lanes := tableU8 l.l2s8 sh o

/-- S2LT: four lookups of S2LF by bits [7:0] of the lanes (R186). -/
def s2ltLanes (l : LutStore) (o : Operands) : Lanes := Lanes.ofFn fun i => l.s2lf[lutIndex (Lanes.get o.a i)]

/-- L2ST: four lookups of L2SF by bits [7:0] of the lanes (R187). -/
def l2stLanes (l : LutStore) (o : Operands) : Lanes := Lanes.ofFn fun i => l.l2sf[lutIndex (Lanes.get o.a i)]

/-- S2L.U16 and L2S.U16: through the scalar core (R181, R184). -/
def convU16 (F : Transfer) (sh : Shape) (o : Operands) : Lanes :=
  byShape sh (fun i => out (conv16 (lin 16 (Lanes.get o.a i)) F)) (out (lin 16 o.a.l3))

/-- S2L.F32 and L2S.F32: through the scalar core, the alpha lane copied bit for bit (R182, R185). -/
def convF32 (F : Transfer) (sh : Shape) (o : Operands) : Lanes :=
  byShape sh (fun i => convF (f32 (Lanes.get o.a i)) F) o.a.l3

/-- S2L.U8, word 0x00000008 (41_srgb.md R180). -/
def execS2lU8 (s : State) : Result := computeLut .s2lU8 (s2lTable .v4) s

/-- S2L.U8.GA, word 0x00000108 (41_srgb.md R180). -/
def execS2lU8Ga (s : State) : Result := computeLut .s2lU8Ga (s2lTable .ga) s

/-- S2L.U8.RGB, word 0x00000208 (41_srgb.md R180). -/
def execS2lU8Rgb (s : State) : Result := computeLut .s2lU8Rgb (s2lTable .rgb) s

/-- S2L.U8.RGBA, word 0x00000308 (41_srgb.md R180). -/
def execS2lU8Rgba (s : State) : Result := computeLut .s2lU8Rgba (s2lTable .rgba) s

/-- S2L.U16, word 0x00000048 (41_srgb.md R181). -/
def execS2lU16 (s : State) : Result := compute (convU16 .toLinear .v4) s

/-- S2L.U16.GA, word 0x00000148 (41_srgb.md R181). -/
def execS2lU16Ga (s : State) : Result := compute (convU16 .toLinear .ga) s

/-- S2L.U16.RGB, word 0x00000248 (41_srgb.md R181). -/
def execS2lU16Rgb (s : State) : Result := compute (convU16 .toLinear .rgb) s

/-- S2L.U16.RGBA, word 0x00000348 (41_srgb.md R181). -/
def execS2lU16Rgba (s : State) : Result := compute (convU16 .toLinear .rgba) s

/-- S2L.F32, word 0x00000088 (41_srgb.md R182). -/
def execS2lF32 (s : State) : Result := compute (convF32 .toLinear .v4) s

/-- S2L.F32.GA, word 0x00000188 (41_srgb.md R182). -/
def execS2lF32Ga (s : State) : Result := compute (convF32 .toLinear .ga) s

/-- S2L.F32.RGB, word 0x00000288 (41_srgb.md R182). -/
def execS2lF32Rgb (s : State) : Result := compute (convF32 .toLinear .rgb) s

/-- S2L.F32.RGBA, word 0x00000388 (41_srgb.md R182). -/
def execS2lF32Rgba (s : State) : Result := compute (convF32 .toLinear .rgba) s

/-- L2S.U8, word 0x00000009 (41_srgb.md R183). -/
def execL2sU8 (s : State) : Result := computeLut .l2sU8 (l2sTable .v4) s

/-- L2S.U8.GA, word 0x00000109 (41_srgb.md R183). -/
def execL2sU8Ga (s : State) : Result := computeLut .l2sU8Ga (l2sTable .ga) s

/-- L2S.U8.RGB, word 0x00000209 (41_srgb.md R183). -/
def execL2sU8Rgb (s : State) : Result := computeLut .l2sU8Rgb (l2sTable .rgb) s

/-- L2S.U8.RGBA, word 0x00000309 (41_srgb.md R183). -/
def execL2sU8Rgba (s : State) : Result := computeLut .l2sU8Rgba (l2sTable .rgba) s

/-- L2S.U16, word 0x00000049 (41_srgb.md R184). -/
def execL2sU16 (s : State) : Result := compute (convU16 .toSrgb .v4) s

/-- L2S.U16.GA, word 0x00000149 (41_srgb.md R184). -/
def execL2sU16Ga (s : State) : Result := compute (convU16 .toSrgb .ga) s

/-- L2S.U16.RGB, word 0x00000249 (41_srgb.md R184). -/
def execL2sU16Rgb (s : State) : Result := compute (convU16 .toSrgb .rgb) s

/-- L2S.U16.RGBA, word 0x00000349 (41_srgb.md R184). -/
def execL2sU16Rgba (s : State) : Result := compute (convU16 .toSrgb .rgba) s

/-- L2S.F32, word 0x00000089 (41_srgb.md R185). -/
def execL2sF32 (s : State) : Result := compute (convF32 .toSrgb .v4) s

/-- L2S.F32.GA, word 0x00000189 (41_srgb.md R185). -/
def execL2sF32Ga (s : State) : Result := compute (convF32 .toSrgb .ga) s

/-- L2S.F32.RGB, word 0x00000289 (41_srgb.md R185). -/
def execL2sF32Rgb (s : State) : Result := compute (convF32 .toSrgb .rgb) s

/-- L2S.F32.RGBA, word 0x00000389 (41_srgb.md R185). -/
def execL2sF32Rgba (s : State) : Result := compute (convF32 .toSrgb .rgba) s

/-- S2LT, word 0x0000000A (41_srgb.md R186). -/
def execS2lt (s : State) : Result := computeLut .s2lt s2ltLanes s

/-- L2ST, word 0x0000000B (41_srgb.md R187). -/
def execL2st (s : State) : Result := computeLut .l2st l2stLanes s

end Sys2Proof.Machine
end

