-- ==== Sys2Proof/Machine/Dispatch.lean ====
section
/-! DEFINITION. The dispatch: one arm per command, each one call of its meaning. The command is performed on the context
that State.issue names (60_exceptions.md R274). -/

namespace Sys2Proof.Machine

def exec (i : Instr) (s : State) : Host.Outcome State Fault Refusal :=
  match i with
  | .nop => Sys2Proof.Machine.execNop s
  | .mulU8 => Sys2Proof.Machine.execMulU8 s
  | .mulU16 => Sys2Proof.Machine.execMulU16 s
  | .mulF32 => Sys2Proof.Machine.execMulF32 s
  | .lerpU8 => Sys2Proof.Machine.execLerpU8 s
  | .lerpU16 => Sys2Proof.Machine.execLerpU16 s
  | .lerpF32 => Sys2Proof.Machine.execLerpF32 s
  | .prelerpU8 => Sys2Proof.Machine.execPrelerpU8 s
  | .prelerpU16 => Sys2Proof.Machine.execPrelerpU16 s
  | .prelerpF32 => Sys2Proof.Machine.execPrelerpF32 s
  | .mulcovU8 => Sys2Proof.Machine.execMulcovU8 s
  | .mulcovU16 => Sys2Proof.Machine.execMulcovU16 s
  | .mulcovF32 => Sys2Proof.Machine.execMulcovF32 s
  | .s2lU8 => Sys2Proof.Machine.execS2lU8 s
  | .s2lU8Ga => Sys2Proof.Machine.execS2lU8Ga s
  | .s2lU8Rgb => Sys2Proof.Machine.execS2lU8Rgb s
  | .s2lU8Rgba => Sys2Proof.Machine.execS2lU8Rgba s
  | .s2lU16 => Sys2Proof.Machine.execS2lU16 s
  | .s2lU16Ga => Sys2Proof.Machine.execS2lU16Ga s
  | .s2lU16Rgb => Sys2Proof.Machine.execS2lU16Rgb s
  | .s2lU16Rgba => Sys2Proof.Machine.execS2lU16Rgba s
  | .s2lF32 => Sys2Proof.Machine.execS2lF32 s
  | .s2lF32Ga => Sys2Proof.Machine.execS2lF32Ga s
  | .s2lF32Rgb => Sys2Proof.Machine.execS2lF32Rgb s
  | .s2lF32Rgba => Sys2Proof.Machine.execS2lF32Rgba s
  | .l2sU8 => Sys2Proof.Machine.execL2sU8 s
  | .l2sU8Ga => Sys2Proof.Machine.execL2sU8Ga s
  | .l2sU8Rgb => Sys2Proof.Machine.execL2sU8Rgb s
  | .l2sU8Rgba => Sys2Proof.Machine.execL2sU8Rgba s
  | .l2sU16 => Sys2Proof.Machine.execL2sU16 s
  | .l2sU16Ga => Sys2Proof.Machine.execL2sU16Ga s
  | .l2sU16Rgb => Sys2Proof.Machine.execL2sU16Rgb s
  | .l2sU16Rgba => Sys2Proof.Machine.execL2sU16Rgba s
  | .l2sF32 => Sys2Proof.Machine.execL2sF32 s
  | .l2sF32Ga => Sys2Proof.Machine.execL2sF32Ga s
  | .l2sF32Rgb => Sys2Proof.Machine.execL2sF32Rgb s
  | .l2sF32Rgba => Sys2Proof.Machine.execL2sF32Rgba s
  | .s2lt => Sys2Proof.Machine.execS2lt s
  | .l2st => Sys2Proof.Machine.execL2st s
  | .premulU8Ga => Sys2Proof.Machine.execPremulU8Ga s
  | .premulU8Rgb => Sys2Proof.Machine.execPremulU8Rgb s
  | .premulU8Rgba => Sys2Proof.Machine.execPremulU8Rgba s
  | .premulU16Ga => Sys2Proof.Machine.execPremulU16Ga s
  | .premulU16Rgb => Sys2Proof.Machine.execPremulU16Rgb s
  | .premulU16Rgba => Sys2Proof.Machine.execPremulU16Rgba s
  | .premulF32Ga => Sys2Proof.Machine.execPremulF32Ga s
  | .premulF32Rgb => Sys2Proof.Machine.execPremulF32Rgb s
  | .premulF32Rgba => Sys2Proof.Machine.execPremulF32Rgba s
  | .demulU8Ga => Sys2Proof.Machine.execDemulU8Ga s
  | .demulU8Rgb => Sys2Proof.Machine.execDemulU8Rgb s
  | .demulU8Rgba => Sys2Proof.Machine.execDemulU8Rgba s
  | .demulU16Ga => Sys2Proof.Machine.execDemulU16Ga s
  | .demulU16Rgb => Sys2Proof.Machine.execDemulU16Rgb s
  | .demulU16Rgba => Sys2Proof.Machine.execDemulU16Rgba s
  | .demulF32Ga => Sys2Proof.Machine.execDemulF32Ga s
  | .demulF32Rgb => Sys2Proof.Machine.execDemulF32Rgb s
  | .demulF32Rgba => Sys2Proof.Machine.execDemulF32Rgba s
  | .gradU8 => Sys2Proof.Machine.execGradU8 s
  | .gradU8Ga => Sys2Proof.Machine.execGradU8Ga s
  | .gradU8Rgb => Sys2Proof.Machine.execGradU8Rgb s
  | .gradU8Rgba => Sys2Proof.Machine.execGradU8Rgba s
  | .gradU16 => Sys2Proof.Machine.execGradU16 s
  | .gradU16Ga => Sys2Proof.Machine.execGradU16Ga s
  | .gradU16Rgb => Sys2Proof.Machine.execGradU16Rgb s
  | .gradU16Rgba => Sys2Proof.Machine.execGradU16Rgba s
  | .gradF32 => Sys2Proof.Machine.execGradF32 s
  | .gradF32Ga => Sys2Proof.Machine.execGradF32Ga s
  | .gradF32Rgb => Sys2Proof.Machine.execGradF32Rgb s
  | .gradF32Rgba => Sys2Proof.Machine.execGradF32Rgba s
  | .addU8Ga => Sys2Proof.Machine.execAddU8Ga s
  | .addU8Rgb => Sys2Proof.Machine.execAddU8Rgb s
  | .addU8Rgba => Sys2Proof.Machine.execAddU8Rgba s
  | .addU16Ga => Sys2Proof.Machine.execAddU16Ga s
  | .addU16Rgb => Sys2Proof.Machine.execAddU16Rgb s
  | .addU16Rgba => Sys2Proof.Machine.execAddU16Rgba s
  | .addF32Ga => Sys2Proof.Machine.execAddF32Ga s
  | .addF32Rgb => Sys2Proof.Machine.execAddF32Rgb s
  | .addF32Rgba => Sys2Proof.Machine.execAddF32Rgba s
  | .gdirU8 => Sys2Proof.Machine.execGdirU8 s
  | .gdirU8Ga => Sys2Proof.Machine.execGdirU8Ga s
  | .gdirU8Rgb => Sys2Proof.Machine.execGdirU8Rgb s
  | .gdirU8Rgba => Sys2Proof.Machine.execGdirU8Rgba s
  | .gdirF32 => Sys2Proof.Machine.execGdirF32 s
  | .gdirF32Ga => Sys2Proof.Machine.execGdirF32Ga s
  | .gdirF32Rgb => Sys2Proof.Machine.execGdirF32Rgb s
  | .gdirF32Rgba => Sys2Proof.Machine.execGdirF32Rgba s
  | .ginvU8 => Sys2Proof.Machine.execGinvU8 s
  | .ginvU8Ga => Sys2Proof.Machine.execGinvU8Ga s
  | .ginvU8Rgb => Sys2Proof.Machine.execGinvU8Rgb s
  | .ginvU8Rgba => Sys2Proof.Machine.execGinvU8Rgba s
  | .ginvF32 => Sys2Proof.Machine.execGinvF32 s
  | .ginvF32Ga => Sys2Proof.Machine.execGinvF32Ga s
  | .ginvF32Rgb => Sys2Proof.Machine.execGinvF32Rgb s
  | .ginvF32Rgba => Sys2Proof.Machine.execGinvF32Rgba s
  | .gdir16 => Sys2Proof.Machine.execGdir16 s
  | .ginv16 => Sys2Proof.Machine.execGinv16 s

end Sys2Proof.Machine
end

