-- ==== Sys2Proof/Machine/Bus.lean ====
section
/-! DEFINITION. The register window: what each offset reads and what a write to it does (10_state.md R31-R43, 20_memory.md
R70-R85), issuing a command (60_exceptions.md R274), and which of the bus's accesses PXA takes next. -/

namespace Sys2Proof.Machine

/-- The 256-byte page of an offset: 0 the global page, c + 1 the page of context c (10_state.md R36). -/
def pageOf (off : BitVec 12) : Nat := off.toNat / 256

/-- The offset in its page. -/
def regOf (off : BitVec 12) : Nat := off.toNat % 256

/-- The offset of a context's page (10_state.md R36: `0x100 × (c + 1)`). -/
def ctxBase (c : Nat) : Nat := 0x100 * (c + 1)

/-- A read of the global page (10_state.md R31-R35). -/
def State.readGlobal (s : State) (reg : Nat) : Word :=
  match reg with
  | 0x00 => idWord
  | 0x04 => ginfoWord s
  | 0x08 => gstatusWord s.lstate
  | _ => 0

/-- A read in a context's page; CMD and reserved offsets read 0 (10_state.md R36, R37). -/
def Context.readReg (x : Context) (reg : Nat) : Word :=
  match reg with
  | 0x04 => cstatusWord x
  | 0x08 => x.errcmd
  | 0x10 => x.a.l0
  | 0x14 => x.a.l1
  | 0x18 => x.a.l2
  | 0x1C => x.a.l3
  | 0x20 => x.b.l0
  | 0x24 => x.b.l1
  | 0x28 => x.b.l2
  | 0x2C => x.b.l3
  | 0x30 => x.k0
  | 0x34 => x.k1
  | 0x40 => x.r.l0
  | 0x44 => x.r.l1
  | 0x48 => x.r.l2
  | 0x4C => x.r.l3
  | _ => 0

/-- What a 32-bit read of an offset returns; a reserved page reads 0 (10_state.md R43). -/
def State.readWindow (s : State) (off : BitVec 12) : Word :=
  match pageOf off with
  | 0 => s.readGlobal (regOf off)
  | c + 1 => if s.hasCtx c then (s.ctx c).readReg (regOf off) else 0

/-- A write in a context's page other than to CMD: A, B and K store the word, CSTATUS is write-1-to-clear, the rest
ignores it (10_state.md R36-R42). -/
def Context.writeReg (x : Context) (reg : Nat) (v : Word) : Context :=
  match reg with
  | 0x04 => x.writeCstatus v
  | 0x10 => { x with a := { x.a with l0 := v } }
  | 0x14 => { x with a := { x.a with l1 := v } }
  | 0x18 => { x with a := { x.a with l2 := v } }
  | 0x1C => { x with a := { x.a with l3 := v } }
  | 0x20 => { x with b := { x.b with l0 := v } }
  | 0x24 => { x with b := { x.b with l1 := v } }
  | 0x28 => { x with b := { x.b with l2 := v } }
  | 0x2C => { x with b := { x.b with l3 := v } }
  | 0x30 => { x with k0 := v }
  | 0x34 => { x with k1 := v }
  | _ => x

/-- A write to the global page: only GCTRL does anything, bit 0 starting the sequencer (10_state.md R34, R35). -/
def State.writeGlobal (s : State) (reg : Nat) (v : Word) : State :=
  if reg = 0x0C ∧ v.getLsbD 0 then s.startSequencer else s

/-- A 32-bit write of an offset that is no CMD register; a reserved page ignores it (10_state.md R43). -/
def State.writeWindow (s : State) (off : BitVec 12) (v : Word) : State :=
  match pageOf off with
  | 0 => s.writeGlobal (regOf off) v
  | c + 1 => if s.hasCtx c then s.setCtx c ((s.ctx c).writeReg (regOf off) v) else s

/-- The context whose CMD register an offset is (10_state.md R36, R37). -/
def State.cmdContext (s : State) (off : BitVec 12) : Option Nat :=
  match pageOf off with
  | 0 => none
  | c + 1 => if s.hasCtx c ∧ regOf off = 0 then some c else none

/-- `issue(c, w)` (60_exceptions.md R274): a word that is no command is an IllegalCommand, a command is performed. -/
def issueCommand (m c : Nat) (w : Word) (s : State) : Result :=
  match decode w with
  | .instr i => exec i (s.withIssue ⟨m, c, w⟩)
  | .illegal _ => .next (s.withIssue ⟨m, c, w⟩).illegalCommand

/-- Whether an access is 32 bits wide at a multiple-of-4 offset (20_memory.md R73). -/
def Access.admitted (a : Access) : Bool := a.width == 4 && a.off.toNat % 4 == 0

/-- One host access (20_memory.md R73-R75): a BusError is decided on the access alone, before any decoding
(60_exceptions.md R275 (1)). A read has no effect but its answer. A CMD write completes as its command says. -/
def performAccess (a : Access) (s : State) : Result :=
  if a.admitted then
    match a.kind with
    | .read => .next (s.respond (.readData a.master (s.readWindow a.off)))
    | .write v =>
      match s.cmdContext a.off with
      | some c => issueCommand a.master c v s
      | none => .next ((s.writeWindow a.off v).respond (.writeDone a.master))
  else .fault (.busError (Config.pxaBase + a.off.toNat))

/-- The masters held by an incomplete CMD write. A context waits only once the sequencer has been started (10_state.md R47,
41_srgb.md R178), so while LSTATE is IDLE there is none. -/
def State.heldMasters (s : State) : List Nat :=
  match s.lstate with
  | .idle => []
  | .busy | .valid => s.contexts.filterMap Context.heldMaster

/-- Whether the access is to a context that takes none, its CMD write being incomplete (20_memory.md R79). A malformed
access is refused whatever its context does (60_exceptions.md R275 (1)). Log 15. -/
def State.contextBusy (s : State) (a : Access) : Bool :=
  match pageOf a.off with
  | 0 => false
  | c + 1 => a.admitted && (s.ctx c).heldMaster.isSome

/-- The first input PXA can take, and the inputs without it: an access waits while its master is held or its context is
busy, and the later accesses of its master wait behind it. `held` are the masters that wait. -/
def State.pickFrom (s : State) : List Nat → List Input → Option (Input × List Input)
  | _, [] => none
  | _, .reset :: rest => some (.reset, rest)
  | held, .access a :: rest =>
    if held.contains a.master || s.contextBusy a then
      match s.pickFrom (a.master :: held) rest with
      | none => none
      | some (i, rest') => some (i, .access a :: rest')
    else some (.access a, rest)

/-- The input PXA takes next, and the inputs then left. Log 4, log 15. -/
def State.pick (s : State) : Option (Input × List Input) := s.pickFrom s.heldMasters s.inputs

/-- The first waiting context from number c on: its number, its master and its command. -/
def firstWaiting (c : Nat) : List Context → Option (Nat × Nat × Instr)
  | [] => none
  | x :: rest =>
    match x.cstate with
    | .ready => firstWaiting (c + 1) rest
    | .waitLut m i _ => some (c, m, i)

/-- The waiting command that can go on: LSTATE is VALID (10_state.md R47, 41_srgb.md R178). Log 4. -/
def State.resumable (s : State) : Option (Nat × Nat × Instr) :=
  match s.lstate with
  | .valid => firstWaiting 0 s.contexts
  | .idle | .busy => none

/-- A waiting command goes on: it executes on the snapshot it kept and completes its write (41_srgb.md R178). -/
def resumeCommand (c m : Nat) (i : Instr) (s : State) : Result := exec i (s.withIssue ⟨m, c, encode i⟩)

/-- What PXA does beside the sequencer in one step: a command that can go on goes on, otherwise the picked access is
performed, otherwise nothing. Log 4. -/
def State.act (s : State) (picked : Option (Input × List Input)) : Result :=
  match s.resumable with
  | some (c, m, i) => resumeCommand c m i s
  | none =>
    match picked with
    | some (.access a, rest) => performAccess a (s.withInputs rest)
    | some (.reset, rest) => .next (s.withInputs rest).resetInput
    | none => .next s

/-- One step of PXA: a reset input comes before everything; otherwise the sequencer runs a cycle and PXA acts. Log 4. -/
def State.advance (s : State) : Result :=
  match s.pick with
  | some (.reset, rest) => .next (s.withInputs rest).resetInput
  | picked => s.sequencerCycle.act picked

/-- After a BusError: the host's operation has failed, the access is gone from the bus, and PXA is as it was but for the
sequencer's cycle (60_exceptions.md R273: "no PXA state changes"). The host's reaction is outside (93 I14). Log 14. -/
def State.afterBusError (s : State) : State :=
  match s.pick with
  | some (_, rest) => s.sequencerCycle.withInputs rest
  | none => s

end Sys2Proof.Machine
end

