-- ==== Sys2Proof/Machine/Step.lean ====
section
/-! DEFINITION. The step. PXA has no program counter (10_state.md R44): its next instruction is the word of the next CMD write
that the bus delivers (00_scope.md R2), so it is "fetched" from State.inputs. -/

namespace Sys2Proof.Machine

/-- One step of PXA (log 4). -/
def step (s : State) : Host.Outcome State Fault Refusal := s.advance

/-- A context that waits no more, its command abandoned. -/
def Context.toReady (x : Context) : Context := { x with cstate := .ready }

/-- The machine with a CMD write of the word w on context 0 first on the bus. A waiting context would go on before it, and
an incomplete CMD write could hold it, so no context waits. -/
def State.withFetchWord (s : State) (nbits w : Nat) : State :=
  { s with
    contexts :=
      match s.lstate with
      | .idle => s.contexts
      | .busy | .valid => s.contexts.map Context.toReady
    inputs := .access ⟨0, 4, 0x100, .write (BitVec.ofNat 32 (w % 2 ^ nbits))⟩ :: s.inputs }

end Sys2Proof.Machine
end

