-- ==== Sys2Proof/Machine/HostProgram.lean ====
section
/-! DEFINITION. What a host program writes: bus accesses by absolute address (00_scope.md R10, 20_memory.md R70), the statements of
30_encoding.md R112 as the accesses they expand to, and the assembler of R111. Loops and branches are the host's. -/

namespace Sys2Proof.Machine

/-- An access of master m by its absolute address, where the address lies in the 4 KiB window (20_memory.md R70). An
address outside it is not PXA's (log 13). -/
def hostAccess (m width addr : Nat) (k : AccessKind) : Option Access :=
  if Config.pxaBase ≤ addr ∧ addr < Config.pxaBase + 0x1000 then
    some { master := m, width := width, off := BitVec.ofNat 12 (addr - Config.pxaBase), kind := k }
  else none

/-- The machine with further inputs on the bus, after those already there. -/
def State.ask (s : State) (l : List Input) : State := s.withInputs (s.inputs ++ l)

/-- `MemWrite(addr, width, v)` of master m (00_scope.md R10). -/
def State.memWrite (s : State) (m addr width : Nat) (v : Word) : State :=
  match hostAccess m width addr (.write v) with
  | some a => s.ask [.access a]
  | none => s

/-- `MemRead(addr, width)` of master m (00_scope.md R10). -/
def State.memRead (s : State) (m addr width : Nat) : State :=
  match hostAccess m width addr .read with
  | some a => s.ask [.access a]
  | none => s

/-- `WR off, v` (30_encoding.md R112). -/
def stmtWr (m off : Nat) (v : Word) : List Input := [.access ⟨m, 4, BitVec.ofNat 12 off, .write v⟩]

/-- `RD rX, off` (R112). -/
def stmtRd (m off : Nat) : List Input := [.access ⟨m, 4, BitVec.ofNat 12 off, .read⟩]

/-- Four writes from an offset on. -/
def stmtLanes (m off : Nat) (v : Lanes) : List Input :=
  stmtWr m off v.l0 ++ stmtWr m (off + 4) v.l1 ++ stmtWr m (off + 8) v.l2 ++ stmtWr m (off + 12) v.l3

/-- `SETA c, v0, v1, v2, v3` (R112). -/
def stmtSetA (m c : Nat) (v : Lanes) : List Input := stmtLanes m (ctxBase c + 0x10) v

/-- `SETB c, v0, v1, v2, v3` (R112). -/
def stmtSetB (m c : Nat) (v : Lanes) : List Input := stmtLanes m (ctxBase c + 0x20) v

/-- `SETK c, k0` (R112). -/
def stmtSetK (m c : Nat) (k0 : Word) : List Input := stmtWr m (ctxBase c + 0x30) k0

/-- `SETKD c, d`: the low word of bits64(d) to K0, the high word to K1 (R112). -/
def stmtSetKd (m c : Nat) (d : DWord) : List Input :=
  stmtWr m (ctxBase c + 0x30) (d.extractLsb' 0 32) ++ stmtWr m (ctxBase c + 0x34) (d.extractLsb' 32 32)

/-- `EXEC c, CMD` (R112). -/
def stmtExec (m c : Nat) (w : Word) : List Input := stmtWr m (ctxBase c) w

/-- `GETR c, r0, r1, r2, r3` (R112). -/
def stmtGetR (m c : Nat) : List Input :=
  stmtRd m (ctxBase c + 0x40) ++ stmtRd m (ctxBase c + 0x44) ++ stmtRd m (ctxBase c + 0x48) ++ stmtRd m (ctxBase c + 0x4C)

/-- `CLRERR c` (R112). -/
def stmtClrErr (m c : Nat) : List Input := stmtWr m (ctxBase c + 0x04) 1

/-- `LUTINIT` (R112). -/
def stmtLutInit (m : Nat) : List Input := stmtWr m 0x00C 1

/-- The operation's name in assembler text (30_encoding.md R104, R111). -/
def opName : Op → String
  | .nop => "NOP"
  | .mul => "MUL"
  | .lerp => "LERP"
  | .prelerp => "PRELERP"
  | .mulcov => "MULCOV"
  | .s2l => "S2L"
  | .l2s => "L2S"
  | .s2lt => "S2LT"
  | .l2st => "L2ST"
  | .premul => "PREMUL"
  | .demul => "DEMUL"
  | .grad => "GRAD"
  | .add => "ADD"
  | .gdir => "GDIR"
  | .ginv => "GINV"
  | .gdir16 => "GDIR16"
  | .ginv16 => "GINV16"

/-- `.U8`, `.U16` or `.F32` (R111). -/
def fmtSuffix : Fmt → String
  | .u8 => ".U8"
  | .u16 => ".U16"
  | .f32 => ".F32"

/-- `.V4`, `.GA`, `.RGB` or `.RGBA` (R111). -/
def shapeSuffix : Shape → String
  | .v4 => ".V4"
  | .ga => ".GA"
  | .rgb => ".RGB"
  | .rgba => ".RGBA"

/-- The operations whose FMT is fixed and may be left out (R111). -/
def fmtOptional : Op → Bool
  | .nop | .s2lt | .l2st | .gdir16 | .ginv16 => true
  | .mul | .lerp | .prelerp | .mulcov | .s2l | .l2s | .premul | .demul | .grad | .add | .gdir | .ginv => false

/-- The spellings `MNEMONIC[.FMT][.SHAPE]` of a command; without a shape it is V4 (R111). Log 22. -/
def spellings (i : Instr) : List String :=
  let (o, f, sh) := opFmtShape i
  let heads := (if fmtOptional o then [opName o] else []) ++ [opName o ++ fmtSuffix f]
  (if sh = .v4 then heads else []) ++ heads.map (· ++ shapeSuffix sh)

/-- The assembler: the word of a spelling; any other text is rejected (R111). DESIGN CHOICE: the gamma spellings are taken
whatever GAMMA_PRESENT is. Log 22, log 23. -/
def assemble (text : String) : Option Word := (allInstrs.find? fun i => (spellings i).contains text).map encode

end Sys2Proof.Machine
end

