-- ==== Sys2Proof/Safety.lean ====
section
/-! DEFINITION. The terms the claims are made in: what a completed command leaves unchanged, what it means that a command
completes with given results, the invariant of the machine, the exact real sRGB curves, and what a rounded operation is. -/

namespace Sys2Proof.Machine

/-- The word is legal in the machine's configuration (30_encoding.md R108). -/
def State.legalWord (s : State) (w : Word) : Bool := WellFormed s.gammaPresent (fieldsOf w)

/-- The commands that read the LUT store (41_srgb.md R178). -/
def lutReaders : List Instr :=
  [.s2lU8, .s2lU8Ga, .s2lU8Rgb, .s2lU8Rgba, .l2sU8, .l2sU8Ga, .l2sU8Rgb, .l2sU8Rgba, .s2lt, .l2st]

/-- The result lanes of a LUT-reading command (41_srgb.md R180, R183, R186, R187). -/
def lutResult (i : Instr) (l : LutStore) (o : Operands) : Lanes :=
  match (opFmtShape i).1 with
  | .s2l => s2lTable (opFmtShape i).2.2 l o
  | .l2s => l2sTable (opFmtShape i).2.2 l o
  | .s2lt => s2ltLanes l o
  | .l2st => l2stLanes l o
  | _ => Lanes.zero

/-- What no command changes on its way from s to t: every register of every context but R, ERR_ILL, ERRCMD and CSTATE of
the issuing one, the LUT store's contents, the configuration and what stands on the bus. -/
structure CommandFrame (s t : State) : Prop where
  count : t.contexts.length = s.contexts.length
  others : ∀ c, c ≠ s.issue.ctx → t.ctx c = s.ctx c
  a : t.cur.a = s.cur.a
  b : t.cur.b = s.cur.b
  k0 : t.cur.k0 = s.cur.k0
  k1 : t.cur.k1 = s.cur.k1
  lut : t.lut = s.lut
  gammaPresent : t.gammaPresent = s.gammaPresent
  issue : t.issue = s.issue
  inputs : t.inputs = s.inputs

/-- t is s after a completed command of the issuing context: nothing but R is changed, and its CMD write is answered. -/
structure CommandDone (s t : State) : Prop where
  frame : CommandFrame s t
  errIll : t.cur.errIll = s.cur.errIll
  errcmd : t.cur.errcmd = s.cur.errcmd
  cstate : t.cur.cstate = .ready
  lstate : t.lstate = s.lstate
  seqCycle : t.seqCycle = s.seqCycle
  responses : t.responses = .writeDone s.issue.master :: s.responses

/-- The issuing context is one of the N_CTX and is READY: a command has just been accepted on it. -/
def State.accepts (s : State) : Prop := s.hasCtx s.issue.ctx = true ∧ s.cur.cstate = .ready

/-- The command completes from every state that accepts it and meets `pre`, and its result lanes R meet `post`. -/
def Completes (i : Instr) (pre : State → Prop) (post : Operands → Lanes → Prop) : Prop :=
  ∀ s, s.accepts → pre s → ∃ t, exec i s = .next t ∧ CommandDone s t ∧ post s.cur.operands t.cur.r

/-- Every lane of R holds the integer that `f` gives for it. -/
def LanesAre (r : Lanes) (f : LaneIx → Nat) : Prop := ∀ j, (Lanes.get r j).toNat = f j

/-- The integer channel of width W in lane j (30_encoding.md R105). -/
def chan (W : Nat) (l : Lanes) (j : LaneIx) : Nat := (Lanes.get l j).toNat % 2 ^ W

/-- a·b/max_W rounded half up (40_kernels.md R135 (b)). -/
def roundedProduct (W a b : Nat) : Nat := (2 * a * b + (2 ^ W - 1)) / (2 * (2 ^ W - 1))

/-- r is the integer nearest to p + (q - p)·a/max_W, and no tie (40_kernels.md R135 (d)). -/
def NearestLerp (W p q a : Nat) (r : Nat) : Prop :=
  2 * |((2 : Int) ^ W - 1) * ((r : Int) - p) - ((q : Int) - p) * a| < (2 : Int) ^ W - 1

/-- The error invariant of a context (10_state.md R38, R39; 60_exceptions.md R272): ERRCMD is 0 or names an illegal word,
and while ERR_ILL is set it names one. -/
def ErrOk (gammaPresent : Bool) (x : Context) : Prop :=
  (x.errcmd = 0 ∨ WellFormed gammaPresent (fieldsOf x.errcmd) = false) ∧
    (x.errIll = true → WellFormed gammaPresent (fieldsOf x.errcmd) = false)

/-- A waiting context waits for a LUT-reading command, on the operands its registers still hold (10_state.md R47,
20_memory.md R74, R79). -/
def WaitOk (x : Context) : Prop := ∀ m i o, x.cstate = .waitLut m i o → i ∈ lutReaders ∧ o = x.operands

/-- The invariant of PXA. -/
structure PxaInv (s : State) : Prop where
  /-- N_CTX is in 1..15 (00_scope.md R5). -/
  count : 1 ≤ s.contexts.length ∧ s.contexts.length ≤ 15
  /-- A command is issued on a context there is. -/
  issued : s.hasCtx s.issue.ctx = true
  /-- No context waits before the sequencer has been started (R46, R47). -/
  idle : s.lstate = .idle → ∀ x ∈ s.contexts, x.cstate = .ready
  /-- While BUSY the sequencer has cycles to go (41_srgb.md R177). -/
  busy : s.lstate = .busy → s.seqCycle < Config.tInit
  /-- Every entry of the store is final once LSTATE is VALID (20_memory.md R80, R85). -/
  valid : s.lstate = .valid → s.lut = LutStore.tables
  err : ∀ x ∈ s.contexts, ErrOk s.gammaPresent x
  wait : ∀ x ∈ s.contexts, WaitOk x

/-- `to_linear(x)`, the exact real sRGB decoding curve (41_srgb.md R170). -/
noncomputable def toLinearReal (x : ℝ) : ℝ :=
  if x ≤ 0.04045 then x / 12.92 else ((x + 0.055) / 1.055) ^ (2.4 : ℝ)

/-- `to_srgb(x)`, the exact real sRGB encoding curve (41_srgb.md R171). -/
noncomputable def toSrgbReal (x : ℝ) : ℝ :=
  if x ≤ 0.0031308 then x * 12.92 else 1.055 * x ^ (1 / 2.4 : ℝ) - 0.055

/-- The exact real curve of a conversion. -/
noncomputable def transferReal : Transfer → ℝ → ℝ
  | .toLinear => toLinearReal
  | .toSrgb => toSrgbReal

/-- A magnitude that a format has, the exponent's upper end left aside: below 2^(fracBits+1), or a multiple of a power of
two by a number of fracBits + 1 bits (00_scope.md R9). -/
def Representable (f : FloatFmt) (m : Nat) : Prop := ∃ n sh, n < 2 ^ (f.fracBits + 1) ∧ m = n * 2 ^ sh

/-- w is the pattern of the binary32 value nearest to the real x ≥ 0, no other being as near (00_scope.md R9 rn32). -/
def NearestF32 (x : ℝ) (w : Word) : Prop :=
  ∃ m, f32 w = .fin false m ∧ ∀ m', Representable b32 m' → m' ≠ m → |(m : ℝ) / 2 ^ 149 - x| < |(m' : ℝ) / 2 ^ 149 - x|

/-- The rational number that `.fin neg mag` is. -/
def finValue (f : FloatFmt) (neg : Bool) (mag : Nat) : ℚ := (if neg then -1 else 1) * mag / 2 ^ f.unitExp

/-- r is the rational x rounded once to the format (00_scope.md R9), a zero x to the zero of the given sign. -/
def RoundsTo (f : FloatFmt) (x : ℚ) (zeroNeg : Bool) (r : FVal) : Prop :=
  ∃ num den : Nat, 0 < den ∧ |x| * 2 ^ f.unitExp = num / den ∧
    r = roundReal f (if x = 0 then zeroNeg else decide (x < 0)) num den

/-- The arithmetic of a format is IEEE's (00_scope.md R9): on finite operands each operation is the exact one rounded once,
and infinities, zeros and NaN go as 40_kernels.md R138, R140 and R144 and 42_color.md R213 say. -/
structure ArithmeticIsIeee (f : FloatFmt) : Prop where
  one : ∃ m, fone f = .fin false m ∧ finValue f false m = 1
  mul : ∀ n m n' m', RoundsTo f (finValue f n m * finValue f n' m') (n != n') (fmul f (.fin n m) (.fin n' m'))
  add : ∀ n m n' m', RoundsTo f (finValue f n m + finValue f n' m') (n && n') (fadd f (.fin n m) (.fin n' m'))
  sub : ∀ n m n' m', RoundsTo f (finValue f n m - finValue f n' m') (n && !n') (fsub f (.fin n m) (.fin n' m'))
  div : ∀ n m n' m', m' ≠ 0 → RoundsTo f (finValue f n m / finValue f n' m') (n != n') (fdiv f (.fin n m) (.fin n' m'))
  nanLeft : ∀ a, fmul f .nan a = .nan ∧ fadd f .nan a = .nan ∧ fsub f .nan a = .nan ∧ fdiv f .nan a = .nan
  nanRight : ∀ a, fmul f a .nan = .nan ∧ fadd f a .nan = .nan ∧ fsub f a .nan = .nan ∧ fdiv f a .nan = .nan
  mulInf : ∀ n n', fmul f (.inf n) (.inf n') = .inf (n != n')
  mulInfFin : ∀ n n' m, fmul f (.inf n) (.fin n' m) = (if m = 0 then .nan else .inf (n != n')) ∧
    fmul f (.fin n' m) (.inf n) = if m = 0 then .nan else .inf (n != n')
  addInf : ∀ n, fadd f (.inf n) (.inf n) = .inf n ∧ fadd f (.inf n) (.inf !n) = .nan
  addInfFin : ∀ n n' m, fadd f (.inf n) (.fin n' m) = .inf n ∧ fadd f (.fin n' m) (.inf n) = .inf n
  subInf : ∀ n, fsub f (.inf n) (.inf n) = .nan ∧ fsub f (.inf n) (.inf !n) = .inf n
  subInfFin : ∀ n n' m, fsub f (.inf n) (.fin n' m) = .inf n ∧ fsub f (.fin n' m) (.inf n) = .inf !n
  divInf : ∀ n n', fdiv f (.inf n) (.inf n') = .nan
  divInfFin : ∀ n n' m, fdiv f (.inf n) (.fin n' m) = .inf (n != n') ∧ fdiv f (.fin n' m) (.inf n) = .fin (n != n') 0
  divZero : ∀ n n' m, fdiv f (.fin n m) (.fin n' 0) = if m = 0 then .nan else .inf (n != n')
  isZero : ∀ a, isZero a = true ↔ ∃ n m, a = .fin n m ∧ finValue f n m = 0
  belowZero : ∀ a, belowZero a = true ↔ a = .inf true ∨ ∃ n m, a = .fin n m ∧ finValue f n m < 0
  aboveOne : ∀ a, aboveOne f a = true ↔ a = .inf false ∨ ∃ n m, a = .fin n m ∧ 1 < finValue f n m

/-- The access of the machine's next step: no reset, no waiting command that goes on before it. -/
def State.takesNext (s : State) (a : Access) (rest : List Input) : Prop :=
  s.pick = some (.access a, rest) ∧ s.sequencerCycle.resumable = none

end Sys2Proof.Machine
end

