-- ==== Sys2Proof/Certificates/Slice0/Obligations.lean ====
section
/-! DEFINITION. The statements for the provers. -/

open Sys2Proof Sys2Proof.Machine

/-- State.reset has N_CTX contexts, 1 to 15; in each of them A, B, K0, K1, R and ERRCMD are 0, ERR_ILL is 0 and CSTATE is READY; LSTATE is IDLE, so GSTATUS reads 0. The LUT contents are left open.
Rests on 70_reset_and_hazards.md R300, 00_scope.md R5. -/
def Obligations.ResetState : Prop :=
  State.reset.contexts.length = Config.nCtx ∧ 1 ≤ Config.nCtx ∧ Config.nCtx ≤ 15 ∧
    (∀ x ∈ State.reset.contexts, x.a = Lanes.zero ∧ x.b = Lanes.zero ∧ x.k0 = 0 ∧ x.k1 = 0 ∧ x.r = Lanes.zero ∧
      x.errIll = false ∧ x.errcmd = 0 ∧ x.cstate = .ready) ∧
    State.reset.lstate = .idle ∧ State.reset.readWindow 0x008 = 0

/-- When the next input PXA takes is a reset, the step leaves every context as after reset, the same number of contexts, LSTATE IDLE, the configuration as it was, whether a command was waiting or the sequencer was running; what it answers beyond the answers given before, it answers to masters of waiting commands (how is open, log 16); the held accesses stay on the bus (the model's choice, log 16).
Rests on 70_reset_and_hazards.md R300, 70_reset_and_hazards.md R302. -/
def Obligations.ResetInputAbandons : Prop :=
  ∀ (s : State) rest, s.pick = some (.reset, rest) →
    ∃ t, step s = .next t ∧ t.contexts.length = s.contexts.length ∧ (∀ c, t.ctx c = Context.reset) ∧
      t.lstate = .idle ∧ t.gammaPresent = s.gammaPresent ∧ t.inputs = rest ∧
      ∃ l, t.responses = l ++ s.responses ∧ ∀ r ∈ l, ∃ c m i o, (s.ctx c).cstate = .waitLut m i o ∧
        (r = .writeDone m ∨ r = .writeFailed m)

/-- In every state a 32-bit read of offset 0x000 answers 0x41470010 and changes nothing else, and a write there changes nothing but to be answered.
Rests on R31. -/
def Obligations.IdRegister : Prop :=
  ∀ (s : State) m, performAccess ⟨m, 4, 0x000, .read⟩ s = .next (s.respond (.readData m 0x41470010)) ∧
    ∀ v, performAccess ⟨m, 4, 0x000, .write v⟩ s = .next (s.respond (.writeDone m))

/-- In every state with 1 to 15 contexts a read of offset 0x004 answers a word whose bits 3..0 are N_CTX, 7..4 are 0, 11..8 are 1, bit 12 is GAMMA_PRESENT and 31..13 are 0, a write there changes nothing, and the reset input does not change the word.
Rests on R32. -/
def Obligations.GinfoRegister : Prop :=
  ∀ (s : State) m, 1 ≤ s.contexts.length → s.contexts.length ≤ 15 →
    (∃ w, performAccess ⟨m, 4, 0x004, .read⟩ s = .next (s.respond (.readData m w)) ∧
      (w.extractLsb' 0 4).toNat = s.contexts.length ∧ w.extractLsb' 4 4 = 0 ∧ w.extractLsb' 8 4 = 1 ∧
      w.getLsbD 12 = s.gammaPresent ∧ w.extractLsb' 13 19 = 0 ∧ s.resetInput.readWindow 0x004 = w) ∧
    ∀ v, performAccess ⟨m, 4, 0x004, .write v⟩ s = .next (s.respond (.writeDone m))

/-- In every state a read of offset 0x008 answers a word whose bit 0 is set exactly when LSTATE is VALID, bit 1 exactly when it is BUSY and bits 31..2 are 0, so never 3; after reset it is 0; a write there changes nothing.
Rests on R33. -/
def Obligations.GstatusRegister : Prop :=
  (∀ (s : State) m,
    (∃ w, performAccess ⟨m, 4, 0x008, .read⟩ s = .next (s.respond (.readData m w)) ∧
      (w.getLsbD 0 = true ↔ s.lstate = .valid) ∧ (w.getLsbD 1 = true ↔ s.lstate = .busy) ∧
      w.extractLsb' 2 30 = 0 ∧ w ≠ 3) ∧
    ∀ v, performAccess ⟨m, 4, 0x008, .write v⟩ s = .next (s.respond (.writeDone m))) ∧
  State.reset.readWindow 0x008 = 0

/-- In every state a read of offset 0x00C answers 0; a write completes at once; it sets LSTATE to BUSY exactly when bit 0 is set and LSTATE is IDLE, and changes nothing else but the model's own cycle count: that a start sets it to 0 is the model's choice (log 11).
Rests on 10_state.md R34, 41_srgb.md R177. -/
def Obligations.GctrlRegister : Prop :=
  ∀ (s : State) m, performAccess ⟨m, 4, 0x00C, .read⟩ s = .next (s.respond (.readData m 0)) ∧
    ∀ v, performAccess ⟨m, 4, 0x00C, .write v⟩ s =
      .next (if v.getLsbD 0 = true ∧ s.lstate = .idle then
        { s with lstate := .busy, seqCycle := 0, responses := .writeDone m :: s.responses }
      else { s with responses := .writeDone m :: s.responses })

/-- An aligned 32-bit read of offsets 0x010 to 0x0FC, of a page of an absent context, or of +0x0C, +0x38, +0x3C or +0x50 to +0xFC of a context's page answers 0, and a write there changes nothing.
Rests on 10_state.md R35, 10_state.md R36, 10_state.md R43. -/
def Obligations.ReservedOffsets : Prop :=
  ∀ (s : State) m (off : BitVec 12), off.toNat % 4 = 0 →
    ((0x010 ≤ off.toNat ∧ off.toNat < 0x100) ∨ (s.contexts.length + 1) * 0x100 ≤ off.toNat ∨
      (0x100 ≤ off.toNat ∧ (off.toNat % 0x100 = 0x0C ∨ off.toNat % 0x100 = 0x38 ∨ off.toNat % 0x100 = 0x3C ∨
        0x50 ≤ off.toNat % 0x100))) →
    performAccess ⟨m, 4, off, .read⟩ s = .next (s.respond (.readData m 0)) ∧
    ∀ v, performAccess ⟨m, 4, off, .write v⟩ s = .next (s.respond (.writeDone m))

/-- On a present context a write to lane j of A or of B, to K0 or to K1 stores the word there, changes no other register of any context and is answered; a read of the same offset then answers that word.
Rests on 10_state.md R40, 10_state.md R41, 10_state.md R36. -/
def Obligations.OperandRegisters : Prop :=
  ∀ (s : State) m c v (j : LaneIx), c < s.contexts.length → c < 15 →
    (∃ t, performAccess ⟨m, 4, BitVec.ofNat 12 (ctxBase c + 0x10 + 4 * j.val), .write v⟩ s = .next t ∧
      t = (s.setCtx c { s.ctx c with a := Lanes.put (s.ctx c).a j v }).respond (.writeDone m) ∧
      t.readWindow (BitVec.ofNat 12 (ctxBase c + 0x10 + 4 * j.val)) = v) ∧
    (∃ t, performAccess ⟨m, 4, BitVec.ofNat 12 (ctxBase c + 0x20 + 4 * j.val), .write v⟩ s = .next t ∧
      t = (s.setCtx c { s.ctx c with b := Lanes.put (s.ctx c).b j v }).respond (.writeDone m) ∧
      t.readWindow (BitVec.ofNat 12 (ctxBase c + 0x20 + 4 * j.val)) = v) ∧
    (∃ t, performAccess ⟨m, 4, BitVec.ofNat 12 (ctxBase c + 0x30), .write v⟩ s = .next t ∧
      t = (s.setCtx c { s.ctx c with k0 := v }).respond (.writeDone m) ∧
      t.readWindow (BitVec.ofNat 12 (ctxBase c + 0x30)) = v) ∧
    (∃ t, performAccess ⟨m, 4, BitVec.ofNat 12 (ctxBase c + 0x34), .write v⟩ s = .next t ∧
      t = (s.setCtx c { s.ctx c with k1 := v }).respond (.writeDone m) ∧
      t.readWindow (BitVec.ofNat 12 (ctxBase c + 0x34)) = v)

/-- On a present context a read of lane j of R answers that lane, a read of ERRCMD answers ERRCMD, a read of CMD answers 0, and writes to R and to ERRCMD change nothing.
Rests on 10_state.md R36, 10_state.md R37, 10_state.md R39, 10_state.md R42. -/
def Obligations.ResultRegistersReadOnly : Prop :=
  ∀ (s : State) m c (j : LaneIx), c < s.contexts.length → c < 15 →
    performAccess ⟨m, 4, BitVec.ofNat 12 (ctxBase c + 0x40 + 4 * j.val), .read⟩ s =
      .next (s.respond (.readData m (Lanes.get (s.ctx c).r j))) ∧
    performAccess ⟨m, 4, BitVec.ofNat 12 (ctxBase c + 0x08), .read⟩ s = .next (s.respond (.readData m (s.ctx c).errcmd)) ∧
    performAccess ⟨m, 4, BitVec.ofNat 12 (ctxBase c), .read⟩ s = .next (s.respond (.readData m 0)) ∧
    ∀ v, performAccess ⟨m, 4, BitVec.ofNat 12 (ctxBase c + 0x40 + 4 * j.val), .write v⟩ s = .next (s.respond (.writeDone m)) ∧
      performAccess ⟨m, 4, BitVec.ofNat 12 (ctxBase c + 0x08), .write v⟩ s = .next (s.respond (.writeDone m))

/-- On a present context a read of CSTATUS answers 1 if ERR_ILL is set and 0 if not; a write with bit 0 set clears ERR_ILL and leaves ERRCMD and everything else; a write with bit 0 clear changes nothing.
Rests on 10_state.md R38, 10_state.md R39, 60_exceptions.md R278. -/
def Obligations.CstatusRegister : Prop :=
  ∀ (s : State) m c v, c < s.contexts.length → c < 15 →
    performAccess ⟨m, 4, BitVec.ofNat 12 (ctxBase c + 0x04), .read⟩ s =
      .next (s.respond (.readData m (if (s.ctx c).errIll then 1 else 0))) ∧
    ∃ t, performAccess ⟨m, 4, BitVec.ofNat 12 (ctxBase c + 0x04), .write v⟩ s = .next t ∧
      (t.ctx c).errIll = ((s.ctx c).errIll && !v.getLsbD 0) ∧ (t.ctx c).errcmd = (s.ctx c).errcmd ∧
      t = (s.setCtx c { s.ctx c with errIll := (t.ctx c).errIll }).respond (.writeDone m)

/-- In every state such an access ends in Fault.busError with the address PXA_BASE + off, whatever its offset; and a step faults only so: then the state PXA goes on from, State.afterBusError (log 14), is the state after the sequencer's cycle with that access gone, so its LSTATE and LUT store are those of the cycle. In every state afterBusError has the same contexts, configuration and answers.
Rests on 20_memory.md R73, 60_exceptions.md R273, 60_exceptions.md R275. -/
def Obligations.MalformedAccessFaults : Prop :=
  (∀ (s : State) (a : Access), a.width ≠ 4 ∨ a.off.toNat % 4 ≠ 0 →
    performAccess a s = .fault (.busError (Config.pxaBase + a.off.toNat))) ∧
  (∀ (s : State), s.afterBusError.contexts = s.contexts ∧ s.afterBusError.responses = s.responses ∧
    s.afterBusError.gammaPresent = s.gammaPresent) ∧
  ∀ (s : State) e, step s = .fault e → ∃ a rest, s.takesNext a rest ∧ a.admitted = false ∧
    e = .busError (Config.pxaBase + a.off.toNat) ∧ s.afterBusError = s.sequencerCycle.withInputs rest ∧
    s.afterBusError.lstate = s.sequencerCycle.lstate ∧ s.afterBusError.lut = s.sequencerCycle.lut

/-- Every admitted read, of any offset in any state, is answered with a word and changes nothing else.
Rests on 20_memory.md R75. -/
def Obligations.ReadsHaveNoSideEffects : Prop :=
  ∀ (s : State) (a : Access), a.admitted = true → a.kind = .read →
    performAccess a s = .next (s.respond (.readData a.master (s.readWindow a.off)))

/-- A CMD write on a present context of a word that is not legal (R108, the provider included) completes normally; ERR_ILL becomes 1; ERRCMD takes the word if ERR_ILL was 0 and stays otherwise; A, B, K, R, CSTATE, LSTATE, the LUT store and the other contexts are unchanged.
Rests on 60_exceptions.md R271, 60_exceptions.md R272, 30_encoding.md R108. -/
def Obligations.IllegalWordRecorded : Prop :=
  ∀ (s : State) m c w, s.hasCtx c = true → s.legalWord w = false →
    ∃ t, issueCommand m c w s = .next t ∧
      t.ctx c = { s.ctx c with errIll := true, errcmd := if (s.ctx c).errIll then (s.ctx c).errcmd else w } ∧
      (∀ d, d ≠ c → t.ctx d = s.ctx d) ∧ t.contexts.length = s.contexts.length ∧ t.lstate = s.lstate ∧ t.lut = s.lut ∧
      t.seqCycle = s.seqCycle ∧ t.gammaPresent = s.gammaPresent ∧ t.inputs = s.inputs ∧
      t.responses = .writeDone m :: s.responses

/-- A CMD write on a present context of a legal word is performed: the model answers a next state in which ERR_ILL and ERRCMD of every context are unchanged.
Rests on 60_exceptions.md R270, 60_exceptions.md R275, 10_state.md R38. -/
def Obligations.LegalWordRaisesNothing : Prop :=
  ∀ (s : State) m c w, s.hasCtx c = true → s.legalWord w = true →
    ∃ t, issueCommand m c w s = .next t ∧ ∀ d, (t.ctx d).errIll = (s.ctx d).errIll ∧ (t.ctx d).errcmd = (s.ctx d).errcmd

/-- When the access a is the one PXA takes next and no waiting command goes on before it, the step performs a on the state after the sequencer's cycle, with a taken from the bus. One access a step is the model's choice (log 4).
Rests on 20_memory.md R79, 70_reset_and_hazards.md R311. -/
def Obligations.StepPerformsAccess : Prop :=
  ∀ (s : State) a rest, s.takesNext a rest → step s = performAccess a (s.sequencerCycle.withInputs rest)

/-- When the access PXA takes next is an admitted write of the word w to the CMD register of context c and w decodes to the command i, the step is exec of i on the state after the sequencer's cycle, with the write taken from the bus and named as the one being performed. The bus as an input list is the model's choice (log 1, log 3).
Rests on 60_exceptions.md R274, 10_state.md R37. -/
def Obligations.StepRunsDecodedCommand : Prop :=
  ∀ (s : State) a rest w c i, s.takesNext a rest → a.admitted = true → a.kind = .write w → s.cmdContext a.off = some c →
    decode w = .instr i →
    step s = exec i ((s.sequencerCycle.withInputs rest).withIssue ⟨a.master, c, w⟩)

/-- The example words of R111 that are legal, and words of further families, decode to the commands they stand for; 0x00000040, NOP with FMT U16, decodes to no command (R109): that the decoder names FMT as the reason is the model's choice (log 19).
Rests on 30_encoding.md R101, 30_encoding.md R111, 30_encoding.md R109. -/
def Obligations.DecodeOfWords : Prop :=
  decode 0x00000001 = .instr .mulU8 ∧ decode 0x00000042 = .instr .lerpU16 ∧ decode 0x00000313 = .instr .addU8Rgba ∧
    decode 0x00000190 = .instr .premulF32Ga ∧ decode 0x00000308 = .instr .s2lU8Rgba ∧ decode 0x0000005B = .instr .ginv16 ∧
    decode 0x0000000A = .instr .s2lt ∧ decode 0x00000252 = .instr .gradU16Rgb ∧ decode 0x00000040 = .illegal .illegalFmt

/-- For every word w and every command i, w decodes to i exactly when w is the encoding of i: no bit of a word is dropped and every command has one word.
Rests on 30_encoding.md R101, 30_encoding.md R104, 30_encoding.md R109. -/
def Obligations.DecodeIffEncode : Prop :=
  ∀ (w : Word) (i : Instr), decode w = .instr i ↔ w = encode i

/-- For every word, the decoder gives a command if and only if the reserved bits are 0, OP is listed, and FMT and SHAPE are in the row's sets (R108 with a provider present); and the command needs the provider exactly when its OP does.
Rests on 30_encoding.md R108, 30_encoding.md R104. -/
def Obligations.DecodesIffLegal : Prop :=
  (∀ w : Word, (∃ i, decode w = .instr i) ↔ WellFormed true (fieldsOf w) = true) ∧
    ∀ (w : Word) i, decode w = .instr i → WellFormed false (fieldsOf w) = !opNeedsProvider (opFmtShape i).1

/-- Whatever the command and the state, if the issuing context is present and exec answers a next state, then every other context, A, B, K0 and K1 of the issuing context, the LUT store, the configuration and the bus inputs are unchanged.
Rests on 10_state.md R40, 10_state.md R41, 10_state.md R45, 60_exceptions.md R286. -/
def Obligations.ExecFrame : Prop :=
  ∀ i s t, s.hasCtx s.issue.ctx = true → exec i s = .next t → CommandFrame s t

/-- Take a command other than NOP and two states that accept it with the same A, B and K in the issuing context, with LSTATE VALID, the same final tables and a provider attached: whatever else the two states hold, the two results R are the same.
Rests on 20_memory.md R80, 20_memory.md R74. -/
def Obligations.ResultIsOfSnapshot : Prop :=
  ∀ i s s' t t', i ≠ .nop → s.accepts → s'.accepts → s.cur.operands = s'.cur.operands →
    s.lstate = .valid → s'.lstate = .valid → s.lut = LutStore.tables → s'.lut = LutStore.tables →
    s.gammaPresent = true → s'.gammaPresent = true →
    exec i s = .next t → exec i s' = .next t' → t.cur.r = t'.cur.r

/-- NOP has the word 0x00000000; from every state that accepts it, its CMD write completes and nothing else changes: R, A, B, K, ERR_ILL, ERRCMD and LSTATE are as before.
Rests on 40_kernels.md R136. -/
def Obligations.NopChangesNothing : Prop :=
  encode .nop = 0x00000000 ∧ ∀ s, s.accepts → ∃ t, exec .nop s = .next t ∧ CommandDone s t ∧ t.cur = s.cur ∧ t.lstate = s.lstate

/-- From every accepting state MUL.U8 and MUL.U16 complete; lane j of R is ⌊(2ab + max)/(2 max)⌋ of the low W bits of A[j] and B[j]; nothing but R changes.
Rests on 40_kernels.md R137, 40_kernels.md R130, 40_kernels.md R135. -/
def Obligations.MulIntRoundsHalfUp : Prop :=
  Completes .mulU8 (fun _ => True) (fun o r => LanesAre r fun j => roundedProduct 8 (chan 8 o.a j) (chan 8 o.b j)) ∧
    Completes .mulU16 (fun _ => True) (fun o r => LanesAre r fun j => roundedProduct 16 (chan 16 o.a j) (chan 16 o.b j))

/-- For W = 8 and 16 and channel values a, a', b up to max_W: mul_W is commutative, mul_W(a, 0) = 0, mul_W(a, max) = a, it is monotonic, at most min(a, b), and equals a·b/max rounded half up.
Rests on 40_kernels.md R135, 40_kernels.md R130. -/
def Obligations.MulKernelLaws : Prop :=
  ∀ W ∈ [8, 16], ∀ a a' b, a ≤ maxW W → a' ≤ maxW W → b ≤ maxW W →
    mulW W a b = mulW W b a ∧ mulW W a 0 = 0 ∧ mulW W a (maxW W) = a ∧ (a ≤ a' → mulW W a b ≤ mulW W a' b) ∧
      mulW W a b ≤ min a b ∧ mulW W a b = roundedProduct W a b

/-- From every accepting state LERP.U8 and LERP.U16 complete; lane j of R is the integer nearest to p + (q - p)·a/max for p, q the low W bits of A[j], B[j] and a those of K0; nothing but R changes.
Rests on 40_kernels.md R139, 40_kernels.md R131, 40_kernels.md R135. -/
def Obligations.LerpIntIsNearest : Prop :=
  Completes .lerpU8 (fun _ => True) (fun o r => ∀ j,
      NearestLerp 8 (chan 8 o.a j) (chan 8 o.b j) (o.k0.toNat % 2 ^ 8) (Lanes.get r j).toNat) ∧
    Completes .lerpU16 (fun _ => True) (fun o r => ∀ j,
      NearestLerp 16 (chan 16 o.a j) (chan 16 o.b j) (o.k0.toNat % 2 ^ 16) (Lanes.get r j).toNat)

/-- For W = 8 and 16 and p, q, a up to max_W: lerp(p, q, 0) = p, lerp(p, q, max) = q, the result is between p and q, and lerp(p, q, a) = lerp(q, p, max - a).
Rests on 40_kernels.md R131, 40_kernels.md R135. -/
def Obligations.LerpKernelLaws : Prop :=
  ∀ W ∈ [8, 16], ∀ p q a, p ≤ maxW W → q ≤ maxW W → a ≤ maxW W →
    lerpW W p q 0 = p ∧ lerpW W p q (maxW W) = q ∧ min p q ≤ lerpW W p q a ∧ lerpW W p q a ≤ max p q ∧
      lerpW W p q a = lerpW W q p (maxW W - a) ∧ lerpInt W p q a = (lerpW W p q a : Int)

/-- From every accepting state they complete; lane j of R is min(p + q - mul(p, a), max) with mul the rounded product; the sum is never negative; nothing but R changes.
Rests on 40_kernels.md R141, 40_kernels.md R132, 90_conflicts.md C2. -/
def Obligations.PrelerpIntSaturates : Prop :=
  Completes .prelerpU8 (fun _ => True) (fun o r => ∀ j, ((Lanes.get r j).toNat : Int) =
      min ((chan 8 o.a j : Int) + chan 8 o.b j - roundedProduct 8 (chan 8 o.a j) (o.k0.toNat % 2 ^ 8)) (2 ^ 8 - 1)) ∧
    Completes .prelerpU16 (fun _ => True) (fun o r => ∀ j, ((Lanes.get r j).toNat : Int) =
      min ((chan 16 o.a j : Int) + chan 16 o.b j - roundedProduct 16 (chan 16 o.a j) (o.k0.toNat % 2 ^ 16)) (2 ^ 16 - 1))

/-- From every accepting state they complete; lane j of R is the rounded product of A[j] and the coverage K0[7:0], widened by 257 for U16; B and the rest of K0 do not matter; nothing but R changes.
Rests on 40_kernels.md R143, 40_kernels.md R133, 30_encoding.md R106. -/
def Obligations.MulcovIntScales : Prop :=
  Completes .mulcovU8 (fun _ => True) (fun o r => LanesAre r fun j => roundedProduct 8 (chan 8 o.a j) (o.k0.toNat % 256)) ∧
    Completes .mulcovU16 (fun _ => True) (fun o r => LanesAre r fun j => roundedProduct 16 (chan 16 o.a j) (o.k0.toNat % 256 * 257))

/-- From every accepting state MUL.F32, LERP.F32, PRELERP.F32 and MULCOV.F32 complete; lane j of R is the canonical word of a·b, of (1-a)·p + a·q, of (1-a)·p + q and of c·(cover/255), every operation rounded once, in that order; nothing but R changes.
Rests on 40_kernels.md R134, 40_kernels.md R138, 40_kernels.md R140, 40_kernels.md R142, 40_kernels.md R144. -/
def Obligations.ScalarF32Complete : Prop :=
  Completes .mulF32 (fun _ => True) (fun o r => ∀ j, Lanes.get r j = canonBits32 (fmul b32 (f32 (Lanes.get o.a j)) (f32 (Lanes.get o.b j)))) ∧
    Completes .lerpF32 (fun _ => True) (fun o r => ∀ j, Lanes.get r j =
      canonBits32 (fadd b32 (fmul b32 (fsub b32 (fone b32) (f32 o.k0)) (f32 (Lanes.get o.a j)))
        (fmul b32 (f32 o.k0) (f32 (Lanes.get o.b j))))) ∧
    Completes .prelerpF32 (fun _ => True) (fun o r => ∀ j, Lanes.get r j =
      canonBits32 (fadd b32 (fmul b32 (fsub b32 (fone b32) (f32 o.k0)) (f32 (Lanes.get o.a j))) (f32 (Lanes.get o.b j)))) ∧
    Completes .mulcovF32 (fun _ => True) (fun o r => ∀ j, Lanes.get r j =
      canonBits32 (fmul b32 (f32 (Lanes.get o.a j)) (roundReal b32 false (o.k0.toNat % 256 * 2 ^ 149) 255)))

/-- For both formats and every non-negative rational num/den, the rounded magnitude is representable, no representable magnitude is nearer, and where another is as near the significand of the chosen one is even, the exponent's upper end left aside; rn32 and rn64 of a real of either sign give infinity of that sign exactly where the rounded magnitude reaches 2^128 or 2^1024, and the rounded magnitude with that sign otherwise. In both formats a·b, a+b, a-b and a/b of finite values are the exact rational result rounded once (a zero product or quotient takes the sign of its operands' signs, an exact zero sum is +0 unless both addends are -0), a NaN operand gives a NaN, and so do ∞·0, ∞-∞, ∞/∞ and 0/0; the other cases with an infinity or a division by zero give the infinity or zero of IEEE 754; the tests for zero, below zero and above 1 are those of the rational values; a conversion between the formats rounds the value once and keeps infinities and NaN.
Rests on 00_scope.md R9, 93_implementation_defined.md G1, 40_kernels.md R138, 40_kernels.md R140, 40_kernels.md R144, 42_color.md R213. -/
def Obligations.RoundingIsToNearestEven : Prop :=
  (∀ f ∈ [b32, b64], ∀ num den, 0 < den →
    Representable f (roundMag f num den) ∧
    (∀ m, Representable f m → |(roundMag f num den * den : Int) - num| ≤ |(m * den : Int) - num|) ∧
    (∀ m, Representable f m → m ≠ roundMag f num den →
      |(m * den : Int) - num| = |(roundMag f num den * den : Int) - num| →
      roundMag f num den / 2 ^ ((num / den).log2 - f.fracBits) % 2 = 0)) ∧
  (∀ neg num den, 0 < den →
    (2 ^ (128 + 149) ≤ roundMag b32 num den → roundReal b32 neg num den = .inf neg) ∧
    (roundMag b32 num den < 2 ^ (128 + 149) → roundReal b32 neg num den = .fin neg (roundMag b32 num den)) ∧
    (2 ^ (1024 + 1074) ≤ roundMag b64 num den → roundReal b64 neg num den = .inf neg) ∧
    (roundMag b64 num den < 2 ^ (1024 + 1074) → roundReal b64 neg num den = .fin neg (roundMag b64 num den))) ∧
  (∀ f ∈ [b32, b64], ArithmeticIsIeee f) ∧
  ∀ f ∈ [b32, b64], ∀ g ∈ [b32, b64], fconvert f g .nan = .nan ∧
    ∀ n, fconvert f g (.inf n) = .inf n ∧ ∀ m, RoundsTo g (finValue f n m) n (fconvert f g (.fin n m))

/-- For every word w: if f32(w) is no NaN then canon(bits32(f32(w))) = w, and if it is a NaN the result is 0x7FC00000; it is a NaN exactly when the exponent field is all ones and the fraction is not 0. For binary32 and binary64 alike, an exponent field of all ones with fraction 0 is the infinity of the sign bit, an exponent field of 0 is the fraction times 2^-149 or 2^-1074, and any other is (1 + fraction) times 2^(exponent - 127) or 2^(exponent - 1023), with the sign bit's sign.
Rests on 00_scope.md R9. -/
def Obligations.FloatBitsRoundTrip : Prop :=
  (∀ w : Word, (f32 w ≠ .nan → canonBits32 (f32 w) = w) ∧ (f32 w = .nan → canonBits32 (f32 w) = 0x7FC00000) ∧
    (f32 w = .nan ↔ w.extractLsb' 23 8 = 0xFF ∧ w.extractLsb' 0 23 ≠ 0) ∧
    (w.extractLsb' 23 8 = 0xFF → w.extractLsb' 0 23 = 0 → f32 w = .inf (w.getLsbD 31)) ∧
    (w.extractLsb' 23 8 ≠ 0xFF → ∃ m, f32 w = .fin (w.getLsbD 31) m ∧ finValue b32 false m =
      if w.extractLsb' 23 8 = 0 then ((w.extractLsb' 0 23).toNat : ℚ) / 2 ^ 149
      else (1 + ((w.extractLsb' 0 23).toNat : ℚ) / 2 ^ 23) * (2 : ℚ) ^ (((w.extractLsb' 23 8).toNat : ℤ) - 127))) ∧
  ∀ d : DWord, (f64 d = .nan ↔ d.extractLsb' 52 11 = 0x7FF ∧ d.extractLsb' 0 52 ≠ 0) ∧
    (d.extractLsb' 52 11 = 0x7FF → d.extractLsb' 0 52 = 0 → f64 d = .inf (d.getLsbD 63)) ∧
    (d.extractLsb' 52 11 ≠ 0x7FF → ∃ m, f64 d = .fin (d.getLsbD 63) m ∧ finValue b64 false m =
      if d.extractLsb' 52 11 = 0 then ((d.extractLsb' 0 52).toNat : ℚ) / 2 ^ 1074
      else (1 + ((d.extractLsb' 0 52).toNat : ℚ) / 2 ^ 52) * (2 : ℚ) ^ (((d.extractLsb' 52 11).toNat : ℤ) - 1023))

/-- For all binary32 words p, q, a whose values are finite, not below 0 and not above 1, the results of lerpF, prelerpF and mulF are finite.
Rests on 40_kernels.md R134, 40_kernels.md R140, 40_kernels.md R142. -/
def Obligations.FloatKernelsNanFree : Prop :=
  ∀ p q a : Word, (∀ x ∈ [p, q, a], ∃ n m, f32 x = .fin n m ∧ m ≤ 2 ^ 149 ∧ (n = true → m = 0)) →
    (∃ n m, lerpF (f32 p) (f32 q) (f32 a) = .fin n m) ∧ (∃ n m, prelerpF (f32 p) (f32 q) (f32 a) = .fin n m) ∧
      (∃ n m, mulF (f32 p) (f32 q) = .fin n m)

/-- With LSTATE VALID and the final tables, S2L.U8 and L2S.U8 of every shape complete; a value lane holds the exact curve at v/255 times 255 rounded half up, the alpha lane passes masked to 8 bits, an unused lane is 0; nothing but R changes.
Rests on 41_srgb.md R180, 41_srgb.md R183, 41_srgb.md R173, 41_srgb.md R174. -/
def Obligations.LutConversionsU8 : Prop :=
  Completes .s2lU8 (fun s => s.lstate = .valid ∧ s.lut = LutStore.tables) (fun o r => LanesAre r fun j =>
      if isValueLane .v4 j then convExact .toLinear 255 (chan 8 o.a j) else if isAlphaLane .v4 j then chan 8 o.a 3 else 0) ∧
    Completes .s2lU8Ga (fun s => s.lstate = .valid ∧ s.lut = LutStore.tables) (fun o r => LanesAre r fun j =>
      if isValueLane .ga j then convExact .toLinear 255 (chan 8 o.a j) else if isAlphaLane .ga j then chan 8 o.a 3 else 0) ∧
    Completes .s2lU8Rgb (fun s => s.lstate = .valid ∧ s.lut = LutStore.tables) (fun o r => LanesAre r fun j =>
      if isValueLane .rgb j then convExact .toLinear 255 (chan 8 o.a j) else if isAlphaLane .rgb j then chan 8 o.a 3 else 0) ∧
    Completes .s2lU8Rgba (fun s => s.lstate = .valid ∧ s.lut = LutStore.tables) (fun o r => LanesAre r fun j =>
      if isValueLane .rgba j then convExact .toLinear 255 (chan 8 o.a j) else if isAlphaLane .rgba j then chan 8 o.a 3 else 0) ∧
    Completes .l2sU8 (fun s => s.lstate = .valid ∧ s.lut = LutStore.tables) (fun o r => LanesAre r fun j =>
      if isValueLane .v4 j then convExact .toSrgb 255 (chan 8 o.a j) else if isAlphaLane .v4 j then chan 8 o.a 3 else 0) ∧
    Completes .l2sU8Ga (fun s => s.lstate = .valid ∧ s.lut = LutStore.tables) (fun o r => LanesAre r fun j =>
      if isValueLane .ga j then convExact .toSrgb 255 (chan 8 o.a j) else if isAlphaLane .ga j then chan 8 o.a 3 else 0) ∧
    Completes .l2sU8Rgb (fun s => s.lstate = .valid ∧ s.lut = LutStore.tables) (fun o r => LanesAre r fun j =>
      if isValueLane .rgb j then convExact .toSrgb 255 (chan 8 o.a j) else if isAlphaLane .rgb j then chan 8 o.a 3 else 0) ∧
    Completes .l2sU8Rgba (fun s => s.lstate = .valid ∧ s.lut = LutStore.tables) (fun o r => LanesAre r fun j =>
      if isValueLane .rgba j then convExact .toSrgb 255 (chan 8 o.a j) else if isAlphaLane .rgba j then chan 8 o.a 3 else 0)

/-- With LSTATE VALID and the final tables, S2LT and L2ST complete; lane j of R is the entry of S2LF or L2SF, as R175 and R176 list them, at bits 7..0 of A[j]; nothing but R changes. Every entry i of either table is the binary32 value nearest to the exact curve of R170 or R171 at i/255, and no other value is as near.
Rests on 41_srgb.md R186, 41_srgb.md R187, 41_srgb.md R175, 41_srgb.md R176, 41_srgb.md R172. -/
def Obligations.LutFloatLookups : Prop :=
  Completes .s2lt (fun s => s.lstate = .valid ∧ s.lut = LutStore.tables) (fun o r => LanesAre r fun j => (s2lfRows.flatten).getD (chan 8 o.a j) 0) ∧
    Completes .l2st (fun s => s.lstate = .valid ∧ s.lut = LutStore.tables) (fun o r => LanesAre r fun j => (l2sfRows.flatten).getD (chan 8 o.a j) 0) ∧
    ∀ i : Nat, i < 256 → NearestF32 (transferReal .toLinear ((i : ℝ) / 255)) (BitVec.ofNat 32 (s2lfRows.flatten.getD i 0)) ∧
      NearestF32 (transferReal .toSrgb ((i : ℝ) / 255)) (BitVec.ofNat 32 (l2sfRows.flatten.getD i 0))

/-- From every accepting state in which LSTATE is not VALID, each of the ten LUT-reading commands starts the sequencer if LSTATE is IDLE, puts its context in WAIT_LUT with its operand snapshot, answers no master, and changes no R lane, no error bit and nothing of the frame. That the context keeps the master, the command and the snapshot is the model's reading (log 18), and that the model's cycle count is 0 at a start and else kept is its choice (log 11).
Rests on 41_srgb.md R178, 10_state.md R47, 20_memory.md R78. -/
def Obligations.LutCommandsWait : Prop :=
  ∀ i ∈ lutReaders, ∀ s, s.accepts → s.lstate ≠ .valid →
    ∃ t, exec i s = .next t ∧ CommandFrame s t ∧ t.lstate = .busy ∧
      t.seqCycle = (if s.lstate = .idle then 0 else s.seqCycle) ∧
      t.cur.cstate = .waitLut s.issue.master i s.cur.operands ∧ t.cur.r = s.cur.r ∧ t.cur.errIll = s.cur.errIll ∧
      t.cur.errcmd = s.cur.errcmd ∧ t.responses = s.responses

/-- For both curves, for 8-bit and 16-bit channels and every channel value v, the model's conversion is ⌊F(v/max)·max + 1/2⌋ of the exact real function F of R170 or R171, power law and all.
Rests on 41_srgb.md R170, 41_srgb.md R171, 41_srgb.md R173, 41_srgb.md R174, 41_srgb.md R179, 93_implementation_defined.md I9. -/
def Obligations.ConversionIsExactRounding : Prop :=
  ∀ F : Transfer, ∀ full ∈ [255, 65535], ∀ v, v ≤ full →
    (convExact F full v : Int) = ⌊transferReal F ((v : ℝ) / (full : ℝ)) * (full : ℝ) + 1 / 2⌋

/-- From every accepting state, whatever LSTATE is, S2L.U16 and L2S.U16 of every shape complete; a value lane holds the exact curve at v/65535 times 65535 rounded half up, the alpha lane passes masked to 16 bits, an unused lane is 0; nothing but R changes, LSTATE included. The exact curve is the model's reading of R172 and 93 I9 (log 9).
Rests on 41_srgb.md R181, 41_srgb.md R184, 41_srgb.md R179. -/
def Obligations.ConversionsU16 : Prop :=
  Completes .s2lU16 (fun _ => True) (fun o r => LanesAre r fun j =>
      if isValueLane .v4 j then convExact .toLinear 65535 (chan 16 o.a j) else if isAlphaLane .v4 j then chan 16 o.a 3 else 0) ∧
    Completes .s2lU16Ga (fun _ => True) (fun o r => LanesAre r fun j =>
      if isValueLane .ga j then convExact .toLinear 65535 (chan 16 o.a j) else if isAlphaLane .ga j then chan 16 o.a 3 else 0) ∧
    Completes .s2lU16Rgb (fun _ => True) (fun o r => LanesAre r fun j =>
      if isValueLane .rgb j then convExact .toLinear 65535 (chan 16 o.a j) else if isAlphaLane .rgb j then chan 16 o.a 3 else 0) ∧
    Completes .s2lU16Rgba (fun _ => True) (fun o r => LanesAre r fun j =>
      if isValueLane .rgba j then convExact .toLinear 65535 (chan 16 o.a j) else if isAlphaLane .rgba j then chan 16 o.a 3 else 0) ∧
    Completes .l2sU16 (fun _ => True) (fun o r => LanesAre r fun j =>
      if isValueLane .v4 j then convExact .toSrgb 65535 (chan 16 o.a j) else if isAlphaLane .v4 j then chan 16 o.a 3 else 0) ∧
    Completes .l2sU16Ga (fun _ => True) (fun o r => LanesAre r fun j =>
      if isValueLane .ga j then convExact .toSrgb 65535 (chan 16 o.a j) else if isAlphaLane .ga j then chan 16 o.a 3 else 0) ∧
    Completes .l2sU16Rgb (fun _ => True) (fun o r => LanesAre r fun j =>
      if isValueLane .rgb j then convExact .toSrgb 65535 (chan 16 o.a j) else if isAlphaLane .rgb j then chan 16 o.a 3 else 0) ∧
    Completes .l2sU16Rgba (fun _ => True) (fun o r => LanesAre r fun j =>
      if isValueLane .rgba j then convExact .toSrgb 65535 (chan 16 o.a j) else if isAlphaLane .rgba j then chan 16 o.a 3 else 0)

/-- From every accepting state S2L.F32 and L2S.F32 of every shape complete; a value lane holds the canonical word of rn32 of the binary64 core at the lane's value, the alpha lane is copied bit for bit, an unused lane is 0; nothing but R changes. The core is any that meets R172 (log 8).
Rests on 41_srgb.md R182, 41_srgb.md R185, 41_srgb.md R179. -/
def Obligations.ConversionsF32 : Prop :=
  Completes .s2lF32 (fun _ => True) (fun o r => ∀ j, Lanes.get r j =
      if isValueLane .v4 j then canonBits32 (fconvert b64 b32 (toLinear64 (fconvert b32 b64 (f32 (Lanes.get o.a j)))))
      else if isAlphaLane .v4 j then o.a.l3 else 0) ∧
    Completes .s2lF32Ga (fun _ => True) (fun o r => ∀ j, Lanes.get r j =
      if isValueLane .ga j then canonBits32 (fconvert b64 b32 (toLinear64 (fconvert b32 b64 (f32 (Lanes.get o.a j)))))
      else if isAlphaLane .ga j then o.a.l3 else 0) ∧
    Completes .s2lF32Rgb (fun _ => True) (fun o r => ∀ j, Lanes.get r j =
      if isValueLane .rgb j then canonBits32 (fconvert b64 b32 (toLinear64 (fconvert b32 b64 (f32 (Lanes.get o.a j)))))
      else if isAlphaLane .rgb j then o.a.l3 else 0) ∧
    Completes .s2lF32Rgba (fun _ => True) (fun o r => ∀ j, Lanes.get r j =
      if isValueLane .rgba j then canonBits32 (fconvert b64 b32 (toLinear64 (fconvert b32 b64 (f32 (Lanes.get o.a j)))))
      else if isAlphaLane .rgba j then o.a.l3 else 0) ∧
    Completes .l2sF32 (fun _ => True) (fun o r => ∀ j, Lanes.get r j =
      if isValueLane .v4 j then canonBits32 (fconvert b64 b32 (toSrgb64 (fconvert b32 b64 (f32 (Lanes.get o.a j)))))
      else if isAlphaLane .v4 j then o.a.l3 else 0) ∧
    Completes .l2sF32Ga (fun _ => True) (fun o r => ∀ j, Lanes.get r j =
      if isValueLane .ga j then canonBits32 (fconvert b64 b32 (toSrgb64 (fconvert b32 b64 (f32 (Lanes.get o.a j)))))
      else if isAlphaLane .ga j then o.a.l3 else 0) ∧
    Completes .l2sF32Rgb (fun _ => True) (fun o r => ∀ j, Lanes.get r j =
      if isValueLane .rgb j then canonBits32 (fconvert b64 b32 (toSrgb64 (fconvert b32 b64 (f32 (Lanes.get o.a j)))))
      else if isAlphaLane .rgb j then o.a.l3 else 0) ∧
    Completes .l2sF32Rgba (fun _ => True) (fun o r => ∀ j, Lanes.get r j =
      if isValueLane .rgba j then canonBits32 (fconvert b64 b32 (toSrgb64 (fconvert b32 b64 (f32 (Lanes.get o.a j)))))
      else if isAlphaLane .rgba j then o.a.l3 else 0)

/-- For both cores: at every binary32 word with a positive finite value x, above 1 too, the binary64 result is finite and within 2^-40, relatively, of the exact real curve at x; and for binary64 values x ≤ y in [0, 1] the result at x is at most the result at y, for TO_LINEAR64 always, and for TO_SRGB64 where x and y are on one side of the threshold 0.0031308 or the exact curve does not fall from x to y (at the threshold it falls, so that R172 (1) and (2) cannot both hold there: 90_conflicts.md C3, log 8). This holds whatever the configuration's cores are.
Rests on 41_srgb.md R172, 00_scope.md R5, 90_conflicts.md C3. -/
def Obligations.ScalarCoreWithinBound : Prop :=
  ∀ F : Transfer,
    (∀ (w : Word) m, f32 w = .fin false m → 0 < m →
      ∃ k, transfer64 F (fconvert b32 b64 (f32 w)) = .fin false k ∧
        |(k : ℝ) / 2 ^ 1074 - transferReal F ((m : ℝ) / 2 ^ 149)| ≤
          (1 / 2 ^ 40 : ℝ) * transferReal F ((m : ℝ) / 2 ^ 149)) ∧
    ∀ (v w : DWord) a b, f64 v = .fin false a → f64 w = .fin false b → a ≤ b → b ≤ 2 ^ 1074 →
      (F = .toLinear ∨ (a * 10000000 ≤ 31308 * 2 ^ 1074 ↔ b * 10000000 ≤ 31308 * 2 ^ 1074) ∨
        transferReal F ((a : ℝ) / 2 ^ 1074) ≤ transferReal F ((b : ℝ) / 2 ^ 1074)) →
      ∃ j k, transfer64 F (f64 v) = .fin false j ∧ transfer64 F (f64 w) = .fin false k ∧ j ≤ k

/-- convF of a NaN is 0x7FC00000, of an infinity and of a zero the same pattern (the sign of a zero kept, log 17), for both cores; a negative value goes to rn64(x / 12.92) or rn64(x · 12.92) by the cores, and convF of a negative finite binary32 word to the pattern of rn32 of that; 12.92 is taken as the real number 323/25, so that the product or quotient is rounded once (log 17).
Rests on 41_srgb.md R172, 41_srgb.md R182, 41_srgb.md R185. -/
def Obligations.ScalarCoreSpecialValues : Prop :=
  ∀ F : Transfer, convF .nan F = 0x7FC00000 ∧ convF (f32 0x7F800000) F = 0x7F800000 ∧ convF (f32 0xFF800000) F = 0xFF800000 ∧
    convF (f32 0x00000000) F = 0x00000000 ∧ convF (f32 0x80000000) F = 0x80000000 ∧
    (∀ m, 0 < m → transfer64 F (.fin true m) =
      match F with
      | .toLinear => roundReal b64 true (25 * m) 323
      | .toSrgb => roundReal b64 true (323 * m) 25) ∧
    ∀ (w : Word) m, f32 w = .fin true m → 0 < m → convF (f32 w) F = canonBits32 (fconvert b64 b32
      (match F with
      | .toLinear => roundReal b64 true (25 * (m * 2 ^ 925)) 323
      | .toSrgb => roundReal b64 true (323 * (m * 2 ^ 925)) 25))

/-- From every accepting state PREMUL of both integer formats and the three shapes completes; a value lane is 0 at alpha 0, the channel at full alpha (and for RGB), and the rounded product otherwise, all of which the rounded product is; alpha passes masked; an unused lane is 0; nothing but R changes.
Rests on 42_color.md R210, 92_eei_decisions.md D23. -/
def Obligations.PremulInt : Prop :=
  Completes .premulU8Ga (fun _ => True) (fun o r => LanesAre r fun j =>
      if isValueLane .ga j then roundedProduct 8 (chan 8 o.a j) (chan 8 o.a 3) else if isAlphaLane .ga j then chan 8 o.a 3 else 0) ∧
    Completes .premulU8Rgb (fun _ => True) (fun o r => LanesAre r fun j =>
      if isValueLane .rgb j then chan 8 o.a j else if isAlphaLane .rgb j then chan 8 o.a 3 else 0) ∧
    Completes .premulU8Rgba (fun _ => True) (fun o r => LanesAre r fun j =>
      if isValueLane .rgba j then roundedProduct 8 (chan 8 o.a j) (chan 8 o.a 3) else if isAlphaLane .rgba j then chan 8 o.a 3 else 0) ∧
    Completes .premulU16Ga (fun _ => True) (fun o r => LanesAre r fun j =>
      if isValueLane .ga j then roundedProduct 16 (chan 16 o.a j) (chan 16 o.a 3) else if isAlphaLane .ga j then chan 16 o.a 3 else 0) ∧
    Completes .premulU16Rgb (fun _ => True) (fun o r => LanesAre r fun j =>
      if isValueLane .rgb j then chan 16 o.a j else if isAlphaLane .rgb j then chan 16 o.a 3 else 0) ∧
    Completes .premulU16Rgba (fun _ => True) (fun o r => LanesAre r fun j =>
      if isValueLane .rgba j then roundedProduct 16 (chan 16 o.a j) (chan 16 o.a 3) else if isAlphaLane .rgba j then chan 16 o.a 3 else 0)

/-- From every accepting state DEMUL of both integer formats and the three shapes completes; a value lane is 0 at alpha 0 and min(⌊c·max/alpha⌋, max) otherwise, the channel itself for RGB; alpha passes masked; an unused lane is 0; nothing but R changes.
Rests on 42_color.md R212, 92_eei_decisions.md D22. -/
def Obligations.DemulInt : Prop :=
  Completes .demulU8Ga (fun _ => True) (fun o r => LanesAre r fun j =>
      if isValueLane .ga j then (if chan 8 o.a 3 = 0 then 0 else
        min (chan 8 o.a j * (2 ^ 8 - 1) / chan 8 o.a 3) (2 ^ 8 - 1)) else if isAlphaLane .ga j then chan 8 o.a 3 else 0) ∧
    Completes .demulU8Rgb (fun _ => True) (fun o r => LanesAre r fun j =>
      if isValueLane .rgb j then chan 8 o.a j else if isAlphaLane .rgb j then chan 8 o.a 3 else 0) ∧
    Completes .demulU8Rgba (fun _ => True) (fun o r => LanesAre r fun j =>
      if isValueLane .rgba j then (if chan 8 o.a 3 = 0 then 0 else
        min (chan 8 o.a j * (2 ^ 8 - 1) / chan 8 o.a 3) (2 ^ 8 - 1)) else if isAlphaLane .rgba j then chan 8 o.a 3 else 0) ∧
    Completes .demulU16Ga (fun _ => True) (fun o r => LanesAre r fun j =>
      if isValueLane .ga j then (if chan 16 o.a 3 = 0 then 0 else
        min (chan 16 o.a j * (2 ^ 16 - 1) / chan 16 o.a 3) (2 ^ 16 - 1)) else if isAlphaLane .ga j then chan 16 o.a 3 else 0) ∧
    Completes .demulU16Rgb (fun _ => True) (fun o r => LanesAre r fun j =>
      if isValueLane .rgb j then chan 16 o.a j else if isAlphaLane .rgb j then chan 16 o.a 3 else 0) ∧
    Completes .demulU16Rgba (fun _ => True) (fun o r => LanesAre r fun j =>
      if isValueLane .rgba j then (if chan 16 o.a 3 = 0 then 0 else
        min (chan 16 o.a j * (2 ^ 16 - 1) / chan 16 o.a 3) (2 ^ 16 - 1)) else if isAlphaLane .rgba j then chan 16 o.a 3 else 0)

/-- From every accepting state PREMUL.F32 and DEMUL.F32 of the three shapes complete; a value lane is +0 at alpha ±0, the same bits at alpha 1.0 and for RGB, otherwise the canonical product, or the quotient saturated at 1.0 from above; alpha is copied bit for bit; an unused lane is 0; nothing but R changes.
Rests on 42_color.md R211, 42_color.md R213, 90_conflicts.md C4. -/
def Obligations.PremulDemulF32 : Prop :=
  Completes .premulF32Ga (fun _ => True) (fun o r => ∀ j, Lanes.get r j =
      if isValueLane .ga j then (if isZero (f32 o.a.l3) = true then 0 else if f32 o.a.l3 = fone b32 then Lanes.get o.a j
        else canonBits32 (fmul b32 (f32 (Lanes.get o.a j)) (f32 o.a.l3)))
      else if isAlphaLane .ga j then o.a.l3 else 0) ∧
    Completes .premulF32Rgb (fun _ => True) (fun o r => ∀ j, Lanes.get r j =
      if isValueLane .rgb j then Lanes.get o.a j
      else if isAlphaLane .rgb j then o.a.l3 else 0) ∧
    Completes .premulF32Rgba (fun _ => True) (fun o r => ∀ j, Lanes.get r j =
      if isValueLane .rgba j then (if isZero (f32 o.a.l3) = true then 0 else if f32 o.a.l3 = fone b32 then Lanes.get o.a j
        else canonBits32 (fmul b32 (f32 (Lanes.get o.a j)) (f32 o.a.l3)))
      else if isAlphaLane .rgba j then o.a.l3 else 0) ∧
    Completes .demulF32Ga (fun _ => True) (fun o r => ∀ j, Lanes.get r j =
      if isValueLane .ga j then (if isZero (f32 o.a.l3) = true then 0 else if f32 o.a.l3 = fone b32 then Lanes.get o.a j
        else if aboveOne b32 (fdiv b32 (f32 (Lanes.get o.a j)) (f32 o.a.l3)) = true then 0x3F800000
        else canonBits32 (fdiv b32 (f32 (Lanes.get o.a j)) (f32 o.a.l3)))
      else if isAlphaLane .ga j then o.a.l3 else 0) ∧
    Completes .demulF32Rgb (fun _ => True) (fun o r => ∀ j, Lanes.get r j =
      if isValueLane .rgb j then Lanes.get o.a j
      else if isAlphaLane .rgb j then o.a.l3 else 0) ∧
    Completes .demulF32Rgba (fun _ => True) (fun o r => ∀ j, Lanes.get r j =
      if isValueLane .rgba j then (if isZero (f32 o.a.l3) = true then 0 else if f32 o.a.l3 = fone b32 then Lanes.get o.a j
        else if aboveOne b32 (fdiv b32 (f32 (Lanes.get o.a j)) (f32 o.a.l3)) = true then 0x3F800000
        else canonBits32 (fdiv b32 (f32 (Lanes.get o.a j)) (f32 o.a.l3)))
      else if isAlphaLane .rgba j then o.a.l3 else 0)

/-- For U8 every alpha from 125 and every channel, and for U16 every alpha from 32765, give back the channel or a neighbour; at alpha 0 the channel becomes 0.
Rests on 42_color.md R219. -/
def Obligations.PremulDemulRoundTrip : Prop :=
  (∀ c al, c ≤ 255 → 125 ≤ al → al ≤ 255 →
    demulChannel 8 (premulChannel 8 c al) al ≤ c + 1 ∧ c ≤ demulChannel 8 (premulChannel 8 c al) al + 1) ∧
  (∀ c al, c ≤ 65535 → 32765 ≤ al → al ≤ 65535 →
    demulChannel 16 (premulChannel 16 c al) al ≤ c + 1 ∧ c ≤ demulChannel 16 (premulChannel 16 c al) al + 1) ∧
  ∀ W c, demulChannel W (premulChannel W c 0) 0 = 0

/-- From every accepting state GRAD of both integer formats and the four shapes completes; every used lane, alpha too, is the integer nearest to p + (q - p)·ik/max; an unused lane is 0; nothing but R changes.
Rests on 42_color.md R215, 42_color.md R214, 40_kernels.md R135. -/
def Obligations.GradIntIsNearest : Prop :=
  Completes .gradU8 (fun _ => True) (fun o r => ∀ j, if isUsedLane .v4 j = true then
        NearestLerp 8 (chan 8 o.a j) (chan 8 o.b j) (gradInt 8 (f64 (o.k1 ++ o.k0))) (Lanes.get r j).toNat
      else Lanes.get r j = 0) ∧
    Completes .gradU8Ga (fun _ => True) (fun o r => ∀ j, if isUsedLane .ga j = true then
        NearestLerp 8 (chan 8 o.a j) (chan 8 o.b j) (gradInt 8 (f64 (o.k1 ++ o.k0))) (Lanes.get r j).toNat
      else Lanes.get r j = 0) ∧
    Completes .gradU8Rgb (fun _ => True) (fun o r => ∀ j, if isUsedLane .rgb j = true then
        NearestLerp 8 (chan 8 o.a j) (chan 8 o.b j) (gradInt 8 (f64 (o.k1 ++ o.k0))) (Lanes.get r j).toNat
      else Lanes.get r j = 0) ∧
    Completes .gradU8Rgba (fun _ => True) (fun o r => ∀ j, if isUsedLane .rgba j = true then
        NearestLerp 8 (chan 8 o.a j) (chan 8 o.b j) (gradInt 8 (f64 (o.k1 ++ o.k0))) (Lanes.get r j).toNat
      else Lanes.get r j = 0) ∧
    Completes .gradU16 (fun _ => True) (fun o r => ∀ j, if isUsedLane .v4 j = true then
        NearestLerp 16 (chan 16 o.a j) (chan 16 o.b j) (gradInt 16 (f64 (o.k1 ++ o.k0))) (Lanes.get r j).toNat
      else Lanes.get r j = 0) ∧
    Completes .gradU16Ga (fun _ => True) (fun o r => ∀ j, if isUsedLane .ga j = true then
        NearestLerp 16 (chan 16 o.a j) (chan 16 o.b j) (gradInt 16 (f64 (o.k1 ++ o.k0))) (Lanes.get r j).toNat
      else Lanes.get r j = 0) ∧
    Completes .gradU16Rgb (fun _ => True) (fun o r => ∀ j, if isUsedLane .rgb j = true then
        NearestLerp 16 (chan 16 o.a j) (chan 16 o.b j) (gradInt 16 (f64 (o.k1 ++ o.k0))) (Lanes.get r j).toNat
      else Lanes.get r j = 0) ∧
    Completes .gradU16Rgba (fun _ => True) (fun o r => ∀ j, if isUsedLane .rgba j = true then
        NearestLerp 16 (chan 16 o.a j) (chan 16 o.b j) (gradInt 16 (f64 (o.k1 ++ o.k0))) (Lanes.get r j).toNat
      else Lanes.get r j = 0)

/-- For W = 8 and 16 and every 64-bit pattern: a NaN, a negative fraction and a zero give ik = 0; a fraction of at least 1 gives ik = max_W; every fraction k in [0, 1] gives ik = ⌊rn64(rn64(k · max_W) + 0.5)⌋, in units of 2^-1074, and so an integer within 1/2 + 2^-36 of k · max_W; every fraction gives ik at most max_W. For F32: a NaN and a negative fraction give kf = +0, a fraction of at least 1 gives 1.0, every other one gives rn32 of itself (−0 stays −0); kf is always finite, not below 0 and not above 1.
Rests on 42_color.md R214, 90_conflicts.md C5. -/
def Obligations.GradFractionClamps : Prop :=
  ∀ k : DWord,
    (∀ W ∈ [8, 16],
      ((f64 k = .nan ∨ belowZero (f64 k) = true ∨ isZero (f64 k) = true) → gradInt W (f64 k) = 0) ∧
      ((aboveOne b64 (f64 k) = true ∨ f64 k = fone b64) → gradInt W (f64 k) = maxW W) ∧ gradInt W (f64 k) ≤ maxW W ∧
      ∀ n m, f64 k = .fin n m → belowZero (f64 k) = false → m ≤ 2 ^ 1074 →
        gradInt W (f64 k) = roundMag b64 (roundMag b64 (m * maxW W) 1 + 2 ^ 1073) 1 / 2 ^ 1074 ∧
        |(gradInt W (f64 k) : ℚ) - m / 2 ^ 1074 * maxW W| ≤ 1 / 2 + 1 / 2 ^ 36) ∧
    ((f64 k = .nan ∨ belowZero (f64 k) = true) → gradF32 (f64 k) = .fin false 0) ∧
    ((aboveOne b64 (f64 k) = true ∨ f64 k = fone b64) → gradF32 (f64 k) = fone b32) ∧
    (f64 k ≠ .nan → belowZero (f64 k) = false → aboveOne b64 (f64 k) = false →
      gradF32 (f64 k) = fconvert b64 b32 (f64 k)) ∧
    ∃ n m, gradF32 (f64 k) = .fin n m ∧ m ≤ 2 ^ 149 ∧ (n = true → m = 0)

/-- From every accepting state GRAD.F32 of the four shapes completes; every used lane is the canonical word of (1-kf)·p + kf·q, each operation rounded; an unused lane is 0; nothing but R changes.
Rests on 42_color.md R216, 40_kernels.md R134. -/
def Obligations.GradF32Completes : Prop :=
  Completes .gradF32 (fun _ => True) (fun o r => ∀ j, Lanes.get r j = if isUsedLane .v4 j = true then
        canonBits32 (fadd b32 (fmul b32 (fsub b32 (fone b32) (gradF32 (f64 (o.k1 ++ o.k0)))) (f32 (Lanes.get o.a j)))
          (fmul b32 (gradF32 (f64 (o.k1 ++ o.k0))) (f32 (Lanes.get o.b j))))
      else 0) ∧
    Completes .gradF32Ga (fun _ => True) (fun o r => ∀ j, Lanes.get r j = if isUsedLane .ga j = true then
        canonBits32 (fadd b32 (fmul b32 (fsub b32 (fone b32) (gradF32 (f64 (o.k1 ++ o.k0)))) (f32 (Lanes.get o.a j)))
          (fmul b32 (gradF32 (f64 (o.k1 ++ o.k0))) (f32 (Lanes.get o.b j))))
      else 0) ∧
    Completes .gradF32Rgb (fun _ => True) (fun o r => ∀ j, Lanes.get r j = if isUsedLane .rgb j = true then
        canonBits32 (fadd b32 (fmul b32 (fsub b32 (fone b32) (gradF32 (f64 (o.k1 ++ o.k0)))) (f32 (Lanes.get o.a j)))
          (fmul b32 (gradF32 (f64 (o.k1 ++ o.k0))) (f32 (Lanes.get o.b j))))
      else 0) ∧
    Completes .gradF32Rgba (fun _ => True) (fun o r => ∀ j, Lanes.get r j = if isUsedLane .rgba j = true then
        canonBits32 (fadd b32 (fmul b32 (fsub b32 (fone b32) (gradF32 (f64 (o.k1 ++ o.k0)))) (f32 (Lanes.get o.a j)))
          (fmul b32 (gradF32 (f64 (o.k1 ++ o.k0))) (f32 (Lanes.get o.b j))))
      else 0)

/-- From every accepting state ADD of both integer formats and the three shapes completes; where coverage is 255 and B's alpha is full (for RGB always) every used lane is B's; otherwise it is A's plus B's scaled by the coverage, saturated at max; an unused lane is 0; nothing but R changes.
Rests on 42_color.md R217, 92_eei_decisions.md D25. -/
def Obligations.AddInt : Prop :=
  Completes .addU8Ga (fun _ => True) (fun o r => LanesAre r fun j => if isUsedLane .ga j = true then
        (if o.k0.toNat % 256 = 255 ∧ chan 8 o.b 3 = 2 ^ 8 - 1 then chan 8 o.b j
          else min (chan 8 o.a j + roundedProduct 8 (chan 8 o.b j) (o.k0.toNat % 256)) (2 ^ 8 - 1))
      else 0) ∧
    Completes .addU8Rgb (fun _ => True) (fun o r => LanesAre r fun j => if isUsedLane .rgb j = true then
        (if o.k0.toNat % 256 = 255 ∧ True then chan 8 o.b j
          else min (chan 8 o.a j + roundedProduct 8 (chan 8 o.b j) (o.k0.toNat % 256)) (2 ^ 8 - 1))
      else 0) ∧
    Completes .addU8Rgba (fun _ => True) (fun o r => LanesAre r fun j => if isUsedLane .rgba j = true then
        (if o.k0.toNat % 256 = 255 ∧ chan 8 o.b 3 = 2 ^ 8 - 1 then chan 8 o.b j
          else min (chan 8 o.a j + roundedProduct 8 (chan 8 o.b j) (o.k0.toNat % 256)) (2 ^ 8 - 1))
      else 0) ∧
    Completes .addU16Ga (fun _ => True) (fun o r => LanesAre r fun j => if isUsedLane .ga j = true then
        (if o.k0.toNat % 256 = 255 ∧ chan 16 o.b 3 = 2 ^ 16 - 1 then chan 16 o.b j
          else min (chan 16 o.a j + roundedProduct 16 (chan 16 o.b j) (o.k0.toNat % 256 * 257)) (2 ^ 16 - 1))
      else 0) ∧
    Completes .addU16Rgb (fun _ => True) (fun o r => LanesAre r fun j => if isUsedLane .rgb j = true then
        (if o.k0.toNat % 256 = 255 ∧ True then chan 16 o.b j
          else min (chan 16 o.a j + roundedProduct 16 (chan 16 o.b j) (o.k0.toNat % 256 * 257)) (2 ^ 16 - 1))
      else 0) ∧
    Completes .addU16Rgba (fun _ => True) (fun o r => LanesAre r fun j => if isUsedLane .rgba j = true then
        (if o.k0.toNat % 256 = 255 ∧ chan 16 o.b 3 = 2 ^ 16 - 1 then chan 16 o.b j
          else min (chan 16 o.a j + roundedProduct 16 (chan 16 o.b j) (o.k0.toNat % 256 * 257)) (2 ^ 16 - 1))
      else 0)

/-- From every accepting state ADD.F32 of the three shapes completes; where coverage is 255 and B's alpha is 1.0 (for RGB always) every used lane is B's bits; otherwise it is the rounded sum of A's and B's scaled by covF, 1.0 where it is above 1.0; an unused lane is 0; nothing but R changes.
Rests on 42_color.md R218, 92_eei_decisions.md D25. -/
def Obligations.AddF32Completes : Prop :=
  Completes .addF32Ga (fun _ => True) (fun o r => ∀ j, Lanes.get r j = if isUsedLane .ga j = true then
        (if o.k0.toNat % 256 = 255 ∧ f32 o.b.l3 = fone b32 then Lanes.get o.b j
          else (let x := if o.k0.toNat % 256 = 255 then f32 (Lanes.get o.b j)
              else fmul b32 (f32 (Lanes.get o.b j)) (roundReal b32 false (o.k0.toNat % 256 * 2 ^ 149) 255)
            if aboveOne b32 (fadd b32 (f32 (Lanes.get o.a j)) x) = true then 0x3F800000
            else canonBits32 (fadd b32 (f32 (Lanes.get o.a j)) x)))
      else 0) ∧
    Completes .addF32Rgb (fun _ => True) (fun o r => ∀ j, Lanes.get r j = if isUsedLane .rgb j = true then
        (if o.k0.toNat % 256 = 255 ∧ True then Lanes.get o.b j
          else (let x := if o.k0.toNat % 256 = 255 then f32 (Lanes.get o.b j)
              else fmul b32 (f32 (Lanes.get o.b j)) (roundReal b32 false (o.k0.toNat % 256 * 2 ^ 149) 255)
            if aboveOne b32 (fadd b32 (f32 (Lanes.get o.a j)) x) = true then 0x3F800000
            else canonBits32 (fadd b32 (f32 (Lanes.get o.a j)) x)))
      else 0) ∧
    Completes .addF32Rgba (fun _ => True) (fun o r => ∀ j, Lanes.get r j = if isUsedLane .rgba j = true then
        (if o.k0.toNat % 256 = 255 ∧ f32 o.b.l3 = fone b32 then Lanes.get o.b j
          else (let x := if o.k0.toNat % 256 = 255 then f32 (Lanes.get o.b j)
              else fmul b32 (f32 (Lanes.get o.b j)) (roundReal b32 false (o.k0.toNat % 256 * 2 ^ 149) 255)
            if aboveOne b32 (fadd b32 (f32 (Lanes.get o.a j)) x) = true then 0x3F800000
            else canonBits32 (fadd b32 (f32 (Lanes.get o.a j)) x)))
      else 0)

/-- With GAMMA_PRESENT, from every accepting state, GDIR and GINV of both formats and the four shapes complete; a value lane is the provider's dir8, inv8 (masked to 8 bits), dirF or invF of the lane, alpha passes (masked for U8, bit for bit for F32), an unused lane is 0; nothing but R changes.
Rests on 43_gamma.md R251, 43_gamma.md R252, 43_gamma.md R253, 43_gamma.md R254, 43_gamma.md R250. -/
def Obligations.GammaColours : Prop :=
  Completes .gdirU8 (fun s => s.gammaPresent = true) (fun o r => ∀ j, Lanes.get r j =
      if isValueLane .v4 j then Config.gamma.dir8 ((Lanes.get o.a j).extractLsb' 0 8) &&& 0xFF
      else if isAlphaLane .v4 j then o.a.l3 &&& 0xFF else 0) ∧
    Completes .gdirU8Ga (fun s => s.gammaPresent = true) (fun o r => ∀ j, Lanes.get r j =
      if isValueLane .ga j then Config.gamma.dir8 ((Lanes.get o.a j).extractLsb' 0 8) &&& 0xFF
      else if isAlphaLane .ga j then o.a.l3 &&& 0xFF else 0) ∧
    Completes .gdirU8Rgb (fun s => s.gammaPresent = true) (fun o r => ∀ j, Lanes.get r j =
      if isValueLane .rgb j then Config.gamma.dir8 ((Lanes.get o.a j).extractLsb' 0 8) &&& 0xFF
      else if isAlphaLane .rgb j then o.a.l3 &&& 0xFF else 0) ∧
    Completes .gdirU8Rgba (fun s => s.gammaPresent = true) (fun o r => ∀ j, Lanes.get r j =
      if isValueLane .rgba j then Config.gamma.dir8 ((Lanes.get o.a j).extractLsb' 0 8) &&& 0xFF
      else if isAlphaLane .rgba j then o.a.l3 &&& 0xFF else 0) ∧
    Completes .ginvU8 (fun s => s.gammaPresent = true) (fun o r => ∀ j, Lanes.get r j =
      if isValueLane .v4 j then Config.gamma.inv8 ((Lanes.get o.a j).extractLsb' 0 8) &&& 0xFF
      else if isAlphaLane .v4 j then o.a.l3 &&& 0xFF else 0) ∧
    Completes .ginvU8Ga (fun s => s.gammaPresent = true) (fun o r => ∀ j, Lanes.get r j =
      if isValueLane .ga j then Config.gamma.inv8 ((Lanes.get o.a j).extractLsb' 0 8) &&& 0xFF
      else if isAlphaLane .ga j then o.a.l3 &&& 0xFF else 0) ∧
    Completes .ginvU8Rgb (fun s => s.gammaPresent = true) (fun o r => ∀ j, Lanes.get r j =
      if isValueLane .rgb j then Config.gamma.inv8 ((Lanes.get o.a j).extractLsb' 0 8) &&& 0xFF
      else if isAlphaLane .rgb j then o.a.l3 &&& 0xFF else 0) ∧
    Completes .ginvU8Rgba (fun s => s.gammaPresent = true) (fun o r => ∀ j, Lanes.get r j =
      if isValueLane .rgba j then Config.gamma.inv8 ((Lanes.get o.a j).extractLsb' 0 8) &&& 0xFF
      else if isAlphaLane .rgba j then o.a.l3 &&& 0xFF else 0) ∧
    Completes .gdirF32 (fun s => s.gammaPresent = true) (fun o r => ∀ j, Lanes.get r j =
      if isValueLane .v4 j then Config.gamma.dirF (Lanes.get o.a j) else if isAlphaLane .v4 j then o.a.l3 else 0) ∧
    Completes .gdirF32Ga (fun s => s.gammaPresent = true) (fun o r => ∀ j, Lanes.get r j =
      if isValueLane .ga j then Config.gamma.dirF (Lanes.get o.a j) else if isAlphaLane .ga j then o.a.l3 else 0) ∧
    Completes .gdirF32Rgb (fun s => s.gammaPresent = true) (fun o r => ∀ j, Lanes.get r j =
      if isValueLane .rgb j then Config.gamma.dirF (Lanes.get o.a j) else if isAlphaLane .rgb j then o.a.l3 else 0) ∧
    Completes .gdirF32Rgba (fun s => s.gammaPresent = true) (fun o r => ∀ j, Lanes.get r j =
      if isValueLane .rgba j then Config.gamma.dirF (Lanes.get o.a j) else if isAlphaLane .rgba j then o.a.l3 else 0) ∧
    Completes .ginvF32 (fun s => s.gammaPresent = true) (fun o r => ∀ j, Lanes.get r j =
      if isValueLane .v4 j then Config.gamma.invF (Lanes.get o.a j) else if isAlphaLane .v4 j then o.a.l3 else 0) ∧
    Completes .ginvF32Ga (fun s => s.gammaPresent = true) (fun o r => ∀ j, Lanes.get r j =
      if isValueLane .ga j then Config.gamma.invF (Lanes.get o.a j) else if isAlphaLane .ga j then o.a.l3 else 0) ∧
    Completes .ginvF32Rgb (fun s => s.gammaPresent = true) (fun o r => ∀ j, Lanes.get r j =
      if isValueLane .rgb j then Config.gamma.invF (Lanes.get o.a j) else if isAlphaLane .rgb j then o.a.l3 else 0) ∧
    Completes .ginvF32Rgba (fun s => s.gammaPresent = true) (fun o r => ∀ j, Lanes.get r j =
      if isValueLane .rgba j then Config.gamma.invF (Lanes.get o.a j) else if isAlphaLane .rgba j then o.a.l3 else 0)

/-- With GAMMA_PRESENT, from every accepting state, GDIR16 and GINV16 complete; lane j is dir16 of bits 7..0 masked to 16 bits, or inv16 of bits 15..0 masked to 8; nothing but R changes.
Rests on 43_gamma.md R255, 43_gamma.md R256. -/
def Obligations.GammaRawLookups : Prop :=
  Completes .gdir16 (fun s => s.gammaPresent = true) (fun o r => ∀ j, Lanes.get r j = Config.gamma.dir16 ((Lanes.get o.a j).extractLsb' 0 8) &&& 0xFFFF) ∧
    Completes .ginv16 (fun s => s.gammaPresent = true) (fun o r => ∀ j, Lanes.get r j = Config.gamma.inv16 ((Lanes.get o.a j).extractLsb' 0 16) &&& 0xFF)

/-- For every provider that is the identity of R257 and every shape, GDIR and GINV give back the used lanes of A (masked to 8 bits for U8), and GINV16 of the lanes GDIR16 gives is bits 7..0 of A.
Rests on 43_gamma.md R257. -/
def Obligations.GammaIdentityProvider : Prop :=
  ∀ (g : Config.GammaProvider) (sh : Shape) (o : Operands), (∀ v, g.dir8 v = v.setWidth 32) → (∀ v, g.inv8 v = v.setWidth 32) →
    (∀ v, g.dirF v = v) → (∀ v, g.invF v = v) → (∀ v, g.dir16 v = v.setWidth 32 * 257) →
    (∀ v, g.inv16 v = (v >>> 8).setWidth 32) → ∀ j,
    (isUsedLane sh j = true → Lanes.get (gdirU8 sh g o) j = Lanes.get o.a j &&& 0xFF ∧
      Lanes.get (ginvU8 sh g o) j = Lanes.get o.a j &&& 0xFF ∧ Lanes.get (gdirF32 sh g o) j = Lanes.get o.a j ∧
      Lanes.get (ginvF32 sh g o) j = Lanes.get o.a j) ∧
    Lanes.get (ginv16Lanes g { o with a := gdir16Lanes g o }) j = Lanes.get o.a j &&& 0xFF

/-- In every step that takes no reset input: from IDLE LSTATE stays IDLE or becomes BUSY, and it becomes BUSY only by an access taken that is a GCTRL write with bit 0 set or a CMD write of a LUT-reading command; from BUSY it stays BUSY or becomes VALID; from VALID it stays VALID.
Rests on 10_state.md R46, 41_srgb.md R177, 10_state.md R34. -/
def Obligations.LstateTransitions : Prop :=
  ∀ s t, step s = .next t → (∀ rest, s.pick ≠ some (.reset, rest)) →
    (s.lstate = .valid → t.lstate = .valid) ∧ (s.lstate = .busy → t.lstate = .busy ∨ t.lstate = .valid) ∧
    (s.lstate = .idle → t.lstate = .idle ∨ (t.lstate = .busy ∧ ∃ a rest v, s.pick = some (.access a, rest) ∧
      a.kind = .write v ∧ ((a.off = 0x00C ∧ v.getLsbD 0 = true) ∨
        (∃ c i, s.cmdContext a.off = some c ∧ decode v = .instr i ∧ i ∈ lutReaders))))

/-- From every state with the invariant in which LSTATE is BUSY and nothing is on the bus, after T_INIT minus the cycles already run steps LSTATE is VALID and the LUT store holds the tables of R173 to R176. That a step is a cycle is the model's choice (log 4, log 11).
Rests on 41_srgb.md R177, 20_memory.md R80. -/
def Obligations.SequencerFinishes : Prop :=
  ∀ s, PxaInv s → s.lstate = .busy → s.inputs = [] →
    ∃ t, Host.Core.run Sys2Proof.core (Config.tInit - s.seqCycle) s = .next t ∧ t.lstate = .valid ∧ t.lut = LutStore.tables

/-- From every state with the invariant and nothing on the bus, a context that waits with the command i on the snapshot o for the master m still waits, unchanged, in a state u fewer than T_INIT + 15 steps later, and the step from u makes it READY, puts the result of i on o with the final tables into its R, and answers m's write, which is the one answer that step gives. The bound is the model's (log 4, log 11); that the wait ends is R274's.
Rests on 41_srgb.md R178, 60_exceptions.md R274, 10_state.md R47. -/
def Obligations.WaitingCommandCompletes : Prop :=
  ∀ s c m i o, PxaInv s → s.inputs = [] → (s.ctx c).cstate = .waitLut m i o →
    ∃ n u t l, n < Config.tInit + 15 ∧ Host.Core.run Sys2Proof.core n s = .next u ∧ u.ctx c = s.ctx c ∧
      u.responses = l ++ s.responses ∧ step u = .next t ∧ (t.ctx c).cstate = .ready ∧
      (t.ctx c).r = lutResult i LutStore.tables o ∧ t.responses = .writeDone m :: u.responses

/-- From a state with the invariant, a step that takes no reset leaves A, B, K, ERR_ILL and ERRCMD of a waiting context as they are, and as long as the context still waits it keeps its command, its snapshot and R.
Rests on 20_memory.md R79, 20_memory.md R84. -/
def Obligations.BusyContextIsLeftAlone : Prop :=
  ∀ s t c m i o, PxaInv s → (s.ctx c).cstate = .waitLut m i o → (∀ rest, s.pick ≠ some (.reset, rest)) → step s = .next t →
    (t.ctx c).operands = (s.ctx c).operands ∧ (t.ctx c).errIll = (s.ctx c).errIll ∧ (t.ctx c).errcmd = (s.ctx c).errcmd ∧
    ((t.ctx c).cstate = .ready ∨ t.ctx c = s.ctx c)

/-- The access PXA takes is on the bus, the accesses left are the others in their order, none of those before it is of the same master, its master is not held by an incomplete CMD write, and the context it addresses is not busy with one. That an access waiting for a busy context holds the later accesses of its master too, and that a malformed access waits for no context (contextBusy is false of it), is the model's reading (log 15).
Rests on 20_memory.md R79, 20_memory.md R78. -/
def Obligations.BusOrderIsKept : Prop :=
  ∀ (s : State) a rest, s.pick = some (.access a, rest) →
    ∃ pre post, s.inputs = pre ++ .access a :: post ∧ rest = pre ++ post ∧ a.master ∉ s.heldMasters ∧
      s.contextBusy a = false ∧ ∀ b, Input.access b ∈ pre → b.master ≠ a.master

/-- When PXA takes the access a and answers a next state, every context whose page a does not address is unchanged, in all its registers and its CSTATE.
Rests on 20_memory.md R80, 60_exceptions.md R286, 60_exceptions.md R275. -/
def Obligations.OtherContextsUntouched : Prop :=
  ∀ (s : State) a rest t d, s.takesNext a rest → step s = .next t → pageOf a.off ≠ d + 1 → t.ctx d = s.ctx d

/-- State.reset meets PxaInv: 1 to 15 contexts, none waiting, no error recorded, LSTATE IDLE.
Rests on 70_reset_and_hazards.md R300. -/
def Obligations.ResetHasInvariant : Prop :=
  PxaInv State.reset

/-- For every state with the invariant, if the step answers a next state, that state has the invariant, and so has State.afterBusError, from which PXA goes on after a BusError (log 14): N_CTX stays in 1..15, a LUT store that is VALID holds the final tables, only LUT-reading commands wait, on the operands their registers hold and never while LSTATE is IDLE, and ERRCMD is 0 or an illegal word, an illegal one while ERR_ILL is set.
Rests on 10_state.md R46, 10_state.md R47, 20_memory.md R80, 60_exceptions.md R272. -/
def Obligations.StepKeepsInvariant : Prop :=
  (∀ s t, PxaInv s → step s = .next t → PxaInv t) ∧ ∀ s, PxaInv s → PxaInv s.afterBusError
end

