-- ==== Sys2Proof/Laws/State.lean ====
section
/-! SUPPORT. One lemma per field per update of State, so that no later proof unfolds a record update. -/

namespace Sys2Proof.Machine

/-! ### `withInputs` -/

@[simp] theorem State.withInputs_contexts (s : State) (l : List Input) : (s.withInputs l).contexts = s.contexts := rfl
@[simp] theorem State.withInputs_lstate (s : State) (l : List Input) : (s.withInputs l).lstate = s.lstate := rfl
@[simp] theorem State.withInputs_lut (s : State) (l : List Input) : (s.withInputs l).lut = s.lut := rfl
@[simp] theorem State.withInputs_seqCycle (s : State) (l : List Input) : (s.withInputs l).seqCycle = s.seqCycle := rfl
@[simp] theorem State.withInputs_gammaPresent (s : State) (l : List Input) : (s.withInputs l).gammaPresent = s.gammaPresent := rfl
@[simp] theorem State.withInputs_issue (s : State) (l : List Input) : (s.withInputs l).issue = s.issue := rfl
@[simp] theorem State.withInputs_inputs (s : State) (l : List Input) : (s.withInputs l).inputs = l := rfl
@[simp] theorem State.withInputs_responses (s : State) (l : List Input) : (s.withInputs l).responses = s.responses := rfl

/-! ### `withIssue` -/

@[simp] theorem State.withIssue_contexts (s : State) (x : Issue) : (s.withIssue x).contexts = s.contexts := rfl
@[simp] theorem State.withIssue_lstate (s : State) (x : Issue) : (s.withIssue x).lstate = s.lstate := rfl
@[simp] theorem State.withIssue_lut (s : State) (x : Issue) : (s.withIssue x).lut = s.lut := rfl
@[simp] theorem State.withIssue_seqCycle (s : State) (x : Issue) : (s.withIssue x).seqCycle = s.seqCycle := rfl
@[simp] theorem State.withIssue_gammaPresent (s : State) (x : Issue) : (s.withIssue x).gammaPresent = s.gammaPresent := rfl
@[simp] theorem State.withIssue_issue (s : State) (x : Issue) : (s.withIssue x).issue = x := rfl
@[simp] theorem State.withIssue_inputs (s : State) (x : Issue) : (s.withIssue x).inputs = s.inputs := rfl
@[simp] theorem State.withIssue_responses (s : State) (x : Issue) : (s.withIssue x).responses = s.responses := rfl

/-! ### `respond` -/

@[simp] theorem State.respond_contexts (s : State) (r : Response) : (s.respond r).contexts = s.contexts := rfl
@[simp] theorem State.respond_lstate (s : State) (r : Response) : (s.respond r).lstate = s.lstate := rfl
@[simp] theorem State.respond_lut (s : State) (r : Response) : (s.respond r).lut = s.lut := rfl
@[simp] theorem State.respond_seqCycle (s : State) (r : Response) : (s.respond r).seqCycle = s.seqCycle := rfl
@[simp] theorem State.respond_gammaPresent (s : State) (r : Response) : (s.respond r).gammaPresent = s.gammaPresent := rfl
@[simp] theorem State.respond_issue (s : State) (r : Response) : (s.respond r).issue = s.issue := rfl
@[simp] theorem State.respond_inputs (s : State) (r : Response) : (s.respond r).inputs = s.inputs := rfl
@[simp] theorem State.respond_responses (s : State) (r : Response) : (s.respond r).responses = r :: s.responses := rfl

/-! ### `completeWrite` -/

@[simp] theorem State.completeWrite_contexts (s : State) : (s.completeWrite).contexts = s.contexts := rfl
@[simp] theorem State.completeWrite_lstate (s : State) : (s.completeWrite).lstate = s.lstate := rfl
@[simp] theorem State.completeWrite_lut (s : State) : (s.completeWrite).lut = s.lut := rfl
@[simp] theorem State.completeWrite_seqCycle (s : State) : (s.completeWrite).seqCycle = s.seqCycle := rfl
@[simp] theorem State.completeWrite_gammaPresent (s : State) : (s.completeWrite).gammaPresent = s.gammaPresent := rfl
@[simp] theorem State.completeWrite_issue (s : State) : (s.completeWrite).issue = s.issue := rfl
@[simp] theorem State.completeWrite_inputs (s : State) : (s.completeWrite).inputs = s.inputs := rfl
@[simp] theorem State.completeWrite_responses (s : State) : (s.completeWrite).responses = .writeDone s.issue.master :: s.responses := rfl

/-! ### `setCtx` -/

@[simp] theorem State.setCtx_contexts (s : State) (c : Nat) (x : Context) : (s.setCtx c x).contexts = s.contexts.set c x := rfl
@[simp] theorem State.setCtx_lstate (s : State) (c : Nat) (x : Context) : (s.setCtx c x).lstate = s.lstate := rfl
@[simp] theorem State.setCtx_lut (s : State) (c : Nat) (x : Context) : (s.setCtx c x).lut = s.lut := rfl
@[simp] theorem State.setCtx_seqCycle (s : State) (c : Nat) (x : Context) : (s.setCtx c x).seqCycle = s.seqCycle := rfl
@[simp] theorem State.setCtx_gammaPresent (s : State) (c : Nat) (x : Context) : (s.setCtx c x).gammaPresent = s.gammaPresent := rfl
@[simp] theorem State.setCtx_issue (s : State) (c : Nat) (x : Context) : (s.setCtx c x).issue = s.issue := rfl
@[simp] theorem State.setCtx_inputs (s : State) (c : Nat) (x : Context) : (s.setCtx c x).inputs = s.inputs := rfl
@[simp] theorem State.setCtx_responses (s : State) (c : Nat) (x : Context) : (s.setCtx c x).responses = s.responses := rfl

/-! ### `setCur` -/

@[simp] theorem State.setCur_contexts (s : State) (x : Context) : (s.setCur x).contexts = s.contexts.set s.issue.ctx x := rfl
@[simp] theorem State.setCur_lstate (s : State) (x : Context) : (s.setCur x).lstate = s.lstate := rfl
@[simp] theorem State.setCur_lut (s : State) (x : Context) : (s.setCur x).lut = s.lut := rfl
@[simp] theorem State.setCur_seqCycle (s : State) (x : Context) : (s.setCur x).seqCycle = s.seqCycle := rfl
@[simp] theorem State.setCur_gammaPresent (s : State) (x : Context) : (s.setCur x).gammaPresent = s.gammaPresent := rfl
@[simp] theorem State.setCur_issue (s : State) (x : Context) : (s.setCur x).issue = s.issue := rfl
@[simp] theorem State.setCur_inputs (s : State) (x : Context) : (s.setCur x).inputs = s.inputs := rfl
@[simp] theorem State.setCur_responses (s : State) (x : Context) : (s.setCur x).responses = s.responses := rfl

/-! ### `writeR` -/

@[simp] theorem State.writeR_contexts (s : State) (l : Lanes) : (s.writeR l).contexts = s.contexts.set s.issue.ctx (s.cur.withR l) := rfl
@[simp] theorem State.writeR_lstate (s : State) (l : Lanes) : (s.writeR l).lstate = s.lstate := rfl
@[simp] theorem State.writeR_lut (s : State) (l : Lanes) : (s.writeR l).lut = s.lut := rfl
@[simp] theorem State.writeR_seqCycle (s : State) (l : Lanes) : (s.writeR l).seqCycle = s.seqCycle := rfl
@[simp] theorem State.writeR_gammaPresent (s : State) (l : Lanes) : (s.writeR l).gammaPresent = s.gammaPresent := rfl
@[simp] theorem State.writeR_issue (s : State) (l : Lanes) : (s.writeR l).issue = s.issue := rfl
@[simp] theorem State.writeR_inputs (s : State) (l : Lanes) : (s.writeR l).inputs = s.inputs := rfl
@[simp] theorem State.writeR_responses (s : State) (l : Lanes) : (s.writeR l).responses = s.responses := rfl

/-! ### `setReady` -/

@[simp] theorem State.setReady_contexts (s : State) : (s.setReady).contexts = s.contexts.set s.issue.ctx (s.cur.withCState .ready) := rfl
@[simp] theorem State.setReady_lstate (s : State) : (s.setReady).lstate = s.lstate := rfl
@[simp] theorem State.setReady_lut (s : State) : (s.setReady).lut = s.lut := rfl
@[simp] theorem State.setReady_seqCycle (s : State) : (s.setReady).seqCycle = s.seqCycle := rfl
@[simp] theorem State.setReady_gammaPresent (s : State) : (s.setReady).gammaPresent = s.gammaPresent := rfl
@[simp] theorem State.setReady_issue (s : State) : (s.setReady).issue = s.issue := rfl
@[simp] theorem State.setReady_inputs (s : State) : (s.setReady).inputs = s.inputs := rfl
@[simp] theorem State.setReady_responses (s : State) : (s.setReady).responses = s.responses := rfl

/-! ### `waitLut` -/

@[simp] theorem State.waitLut_contexts (s : State) (i : Instr) : (s.waitLut i).contexts = s.contexts.set s.issue.ctx (s.cur.withCState (.waitLut s.issue.master i s.snapshot)) := rfl
@[simp] theorem State.waitLut_lstate (s : State) (i : Instr) : (s.waitLut i).lstate = s.lstate := rfl
@[simp] theorem State.waitLut_lut (s : State) (i : Instr) : (s.waitLut i).lut = s.lut := rfl
@[simp] theorem State.waitLut_seqCycle (s : State) (i : Instr) : (s.waitLut i).seqCycle = s.seqCycle := rfl
@[simp] theorem State.waitLut_gammaPresent (s : State) (i : Instr) : (s.waitLut i).gammaPresent = s.gammaPresent := rfl
@[simp] theorem State.waitLut_issue (s : State) (i : Instr) : (s.waitLut i).issue = s.issue := rfl
@[simp] theorem State.waitLut_inputs (s : State) (i : Instr) : (s.waitLut i).inputs = s.inputs := rfl
@[simp] theorem State.waitLut_responses (s : State) (i : Instr) : (s.waitLut i).responses = s.responses := rfl

/-! ### `illegalCommand` -/

@[simp] theorem State.illegalCommand_lstate (s : State) : (s.illegalCommand).lstate = s.lstate := rfl
@[simp] theorem State.illegalCommand_lut (s : State) : (s.illegalCommand).lut = s.lut := rfl
@[simp] theorem State.illegalCommand_seqCycle (s : State) : (s.illegalCommand).seqCycle = s.seqCycle := rfl
@[simp] theorem State.illegalCommand_gammaPresent (s : State) : (s.illegalCommand).gammaPresent = s.gammaPresent := rfl
@[simp] theorem State.illegalCommand_issue (s : State) : (s.illegalCommand).issue = s.issue := rfl
@[simp] theorem State.illegalCommand_inputs (s : State) : (s.illegalCommand).inputs = s.inputs := rfl
@[simp] theorem State.illegalCommand_responses (s : State) : (s.illegalCommand).responses = .writeDone s.issue.master :: s.responses := rfl
@[simp] theorem State.illegalCommand_contexts (s : State) :
    s.illegalCommand.contexts = s.contexts.set s.issue.ctx (s.cur.recordIllegal s.issue.word) := rfl

/-! ### `resetInput` -/

@[simp] theorem State.resetInput_contexts (s : State) : (s.resetInput).contexts = s.contexts.map fun _ => Context.reset := rfl
@[simp] theorem State.resetInput_lstate (s : State) : (s.resetInput).lstate = .idle := rfl
@[simp] theorem State.resetInput_lut (s : State) : (s.resetInput).lut = LutStore.unspecified := rfl
@[simp] theorem State.resetInput_seqCycle (s : State) : (s.resetInput).seqCycle = 0 := rfl
@[simp] theorem State.resetInput_gammaPresent (s : State) : (s.resetInput).gammaPresent = s.gammaPresent := rfl
@[simp] theorem State.resetInput_issue (s : State) : (s.resetInput).issue = ⟨0, 0, 0⟩ := rfl
@[simp] theorem State.resetInput_inputs (s : State) : (s.resetInput).inputs = s.inputs := rfl
@[simp] theorem State.resetInput_responses (s : State) : (s.resetInput).responses = s.abandonedAnswers ++ s.responses := rfl

/-! ### `startSequencer` -/

@[simp] theorem State.startSequencer_contexts (s : State) : (s.startSequencer).contexts = s.contexts := by unfold State.startSequencer; split <;> rfl
@[simp] theorem State.startSequencer_lut (s : State) : (s.startSequencer).lut = s.lut := by unfold State.startSequencer; split <;> rfl
@[simp] theorem State.startSequencer_gammaPresent (s : State) : (s.startSequencer).gammaPresent = s.gammaPresent := by unfold State.startSequencer; split <;> rfl
@[simp] theorem State.startSequencer_issue (s : State) : (s.startSequencer).issue = s.issue := by unfold State.startSequencer; split <;> rfl
@[simp] theorem State.startSequencer_inputs (s : State) : (s.startSequencer).inputs = s.inputs := by unfold State.startSequencer; split <;> rfl
@[simp] theorem State.startSequencer_responses (s : State) : (s.startSequencer).responses = s.responses := by unfold State.startSequencer; split <;> rfl
theorem State.startSequencer_lstate (s : State) :
    s.startSequencer.lstate = if s.lstate = .idle then .busy else s.lstate := by
  unfold State.startSequencer; split <;> simp_all

/-! ### `sequencerCycle` -/

@[simp] theorem State.sequencerCycle_contexts (s : State) : (s.sequencerCycle).contexts = s.contexts := by unfold State.sequencerCycle; split <;> (try split) <;> rfl
@[simp] theorem State.sequencerCycle_gammaPresent (s : State) : (s.sequencerCycle).gammaPresent = s.gammaPresent := by unfold State.sequencerCycle; split <;> (try split) <;> rfl
@[simp] theorem State.sequencerCycle_issue (s : State) : (s.sequencerCycle).issue = s.issue := by unfold State.sequencerCycle; split <;> (try split) <;> rfl
@[simp] theorem State.sequencerCycle_inputs (s : State) : (s.sequencerCycle).inputs = s.inputs := by unfold State.sequencerCycle; split <;> (try split) <;> rfl
@[simp] theorem State.sequencerCycle_responses (s : State) : (s.sequencerCycle).responses = s.responses := by unfold State.sequencerCycle; split <;> (try split) <;> rfl

/-- What a cycle of the sequencer does (41_srgb.md R177): nothing while IDLE or VALID; while BUSY one cycle more, the last
of which leaves the final tables and LSTATE VALID. -/
theorem State.sequencerCycle_cases (s : State) :
    (s.lstate ≠ .busy ∧ s.sequencerCycle = s) ∨
    (s.lstate = .busy ∧ s.seqCycle + 1 < Config.tInit ∧ s.sequencerCycle.lstate = .busy ∧
      s.sequencerCycle.seqCycle = s.seqCycle + 1) ∨
    (s.lstate = .busy ∧ Config.tInit ≤ s.seqCycle + 1 ∧ s.sequencerCycle.lstate = .valid ∧
      s.sequencerCycle.lut = LutStore.tables) := by
  unfold State.sequencerCycle
  cases h : s.lstate with
  | idle => simp
  | valid => simp
  | busy =>
    by_cases hc : Config.tInit ≤ s.seqCycle + 1
    · simp [hc]
    · simp [hc]; omega

/-! ### Contexts -/

@[simp] theorem Context.withR_a (x : Context) (l : Lanes) : (x.withR l).a = x.a := rfl
@[simp] theorem Context.withR_b (x : Context) (l : Lanes) : (x.withR l).b = x.b := rfl
@[simp] theorem Context.withR_k0 (x : Context) (l : Lanes) : (x.withR l).k0 = x.k0 := rfl
@[simp] theorem Context.withR_k1 (x : Context) (l : Lanes) : (x.withR l).k1 = x.k1 := rfl
@[simp] theorem Context.withR_r (x : Context) (l : Lanes) : (x.withR l).r = l := rfl
@[simp] theorem Context.withR_errIll (x : Context) (l : Lanes) : (x.withR l).errIll = x.errIll := rfl
@[simp] theorem Context.withR_errcmd (x : Context) (l : Lanes) : (x.withR l).errcmd = x.errcmd := rfl
@[simp] theorem Context.withR_cstate (x : Context) (l : Lanes) : (x.withR l).cstate = x.cstate := rfl
@[simp] theorem Context.withR_operands (x : Context) (l : Lanes) : (x.withR l).operands = x.operands := rfl

@[simp] theorem Context.withCState_a (x : Context) (st : CState) : (x.withCState st).a = x.a := rfl
@[simp] theorem Context.withCState_b (x : Context) (st : CState) : (x.withCState st).b = x.b := rfl
@[simp] theorem Context.withCState_k0 (x : Context) (st : CState) : (x.withCState st).k0 = x.k0 := rfl
@[simp] theorem Context.withCState_k1 (x : Context) (st : CState) : (x.withCState st).k1 = x.k1 := rfl
@[simp] theorem Context.withCState_r (x : Context) (st : CState) : (x.withCState st).r = x.r := rfl
@[simp] theorem Context.withCState_errIll (x : Context) (st : CState) : (x.withCState st).errIll = x.errIll := rfl
@[simp] theorem Context.withCState_errcmd (x : Context) (st : CState) : (x.withCState st).errcmd = x.errcmd := rfl
@[simp] theorem Context.withCState_cstate (x : Context) (st : CState) : (x.withCState st).cstate = st := rfl
@[simp] theorem Context.withCState_operands (x : Context) (st : CState) : (x.withCState st).operands = x.operands := rfl

@[simp] theorem Context.recordIllegal_a (x : Context) (w : Word) : (x.recordIllegal w).a = x.a := rfl
@[simp] theorem Context.recordIllegal_b (x : Context) (w : Word) : (x.recordIllegal w).b = x.b := rfl
@[simp] theorem Context.recordIllegal_k0 (x : Context) (w : Word) : (x.recordIllegal w).k0 = x.k0 := rfl
@[simp] theorem Context.recordIllegal_k1 (x : Context) (w : Word) : (x.recordIllegal w).k1 = x.k1 := rfl
@[simp] theorem Context.recordIllegal_r (x : Context) (w : Word) : (x.recordIllegal w).r = x.r := rfl
@[simp] theorem Context.recordIllegal_errIll (x : Context) (w : Word) : (x.recordIllegal w).errIll = true := rfl
@[simp] theorem Context.recordIllegal_errcmd (x : Context) (w : Word) : (x.recordIllegal w).errcmd = if x.errIll then x.errcmd else w := rfl
@[simp] theorem Context.recordIllegal_cstate (x : Context) (w : Word) : (x.recordIllegal w).cstate = x.cstate := rfl
@[simp] theorem Context.recordIllegal_operands (x : Context) (w : Word) : (x.recordIllegal w).operands = x.operands := rfl

theorem State.hasCtx_iff (s : State) (c : Nat) : s.hasCtx c = true ↔ c < s.contexts.length := by
  simp [State.hasCtx]

@[simp] theorem State.hasCtx_setCtx (s : State) (c d : Nat) (x : Context) : (s.setCtx c x).hasCtx d = s.hasCtx d := by
  rw [Bool.eq_iff_iff, State.hasCtx_iff, State.hasCtx_iff]; simp

theorem State.ctx_setCtx_same (s : State) (c : Nat) (x : Context) (h : s.hasCtx c = true) : (s.setCtx c x).ctx c = x := by
  have hc := (s.hasCtx_iff c).1 h
  simp [State.ctx, hc]

theorem State.ctx_setCtx_other (s : State) (c d : Nat) (x : Context) (h : d ≠ c) : (s.setCtx c x).ctx d = s.ctx d := by
  simp [State.ctx, List.getD_eq_getElem?_getD, List.getElem?_set_ne (Ne.symm h)]

theorem State.ctx_mem (s : State) (c : Nat) (h : s.hasCtx c = true) : s.ctx c ∈ s.contexts := by
  have hc := (s.hasCtx_iff c).1 h
  simp [State.ctx, hc]

theorem State.ctx_congr (s t : State) (c : Nat) (h : t.contexts = s.contexts) : t.ctx c = s.ctx c := by
  simp [State.ctx, h]

/-! ### Lanes -/

@[simp] theorem Lanes.get_ofFn (f : LaneIx → Word) (i : LaneIx) : Lanes.get (Lanes.ofFn f) i = f i := by
  match i with
  | 0 => rfl
  | 1 => rfl
  | 2 => rfl
  | 3 => rfl

theorem Lanes.ext_get (a b : Lanes) (h : ∀ i, Lanes.get a i = Lanes.get b i) : a = b := by
  have h0 := h 0; have h1 := h 1; have h2 := h 2; have h3 := h 3
  cases a; cases b
  simp_all [Lanes.get]

end Sys2Proof.Machine
end

