-- ==== Sys2Proof/Laws/Ops.lean ====
section
/-! SUPPORT. For each shared operation, once, what it can do: the shapes of a command's meaning, the error, the choice of the
next access and the step itself. -/

namespace Sys2Proof.Machine

/-! ### The issuing context -/

theorem State.cur_setCur (s : State) (x : Context) (h : s.hasCtx s.issue.ctx = true) : (s.setCur x).cur = x :=
  s.ctx_setCtx_same s.issue.ctx x h

theorem State.ctx_setCur_other (s : State) (x : Context) (d : Nat) (h : d ≠ s.issue.ctx) : (s.setCur x).ctx d = s.ctx d :=
  s.ctx_setCtx_other s.issue.ctx d x h

@[simp] theorem State.ctx_respond (s : State) (r : Response) (c : Nat) : (s.respond r).ctx c = s.ctx c := rfl

@[simp] theorem State.ctx_completeWrite (s : State) (c : Nat) : s.completeWrite.ctx c = s.ctx c := rfl

@[simp] theorem State.cur_completeWrite (s : State) : s.completeWrite.cur = s.cur := rfl

@[simp] theorem State.ctx_withInputs (s : State) (l : List Input) (c : Nat) : (s.withInputs l).ctx c = s.ctx c := rfl

@[simp] theorem State.ctx_withIssue (s : State) (x : Issue) (c : Nat) : (s.withIssue x).ctx c = s.ctx c := rfl

@[simp] theorem State.ctx_startSequencer (s : State) (c : Nat) : s.startSequencer.ctx c = s.ctx c :=
  State.ctx_congr s _ c (State.startSequencer_contexts s)

@[simp] theorem State.ctx_sequencerCycle (s : State) (c : Nat) : s.sequencerCycle.ctx c = s.ctx c :=
  State.ctx_congr s _ c (State.sequencerCycle_contexts s)

theorem State.snapshot_of_accepts (s : State) (h : s.accepts) : s.snapshot = s.cur.operands := by
  simp [State.snapshot, h.2]

/-- Replacing the issuing context by one with the same operand registers changes nothing of the command frame. -/
theorem CommandFrame.of_setCur (s : State) (x : Context) (h : s.hasCtx s.issue.ctx = true)
    (ha : x.a = s.cur.a) (hb : x.b = s.cur.b) (h0 : x.k0 = s.cur.k0) (h1 : x.k1 = s.cur.k1) :
    CommandFrame s (s.setCur x) := by
  have hc := s.cur_setCur x h
  constructor <;> simp [hc, ha, hb, h0, h1]
  exact fun c => s.ctx_setCur_other x c

/-- Answering a master is no part of the frame. -/
theorem CommandFrame.respond {s t : State} (h : CommandFrame s t) (r : Response) : CommandFrame s (t.respond r) :=
  ⟨h.count, h.others, h.a, h.b, h.k0, h.k1, h.lut, h.gammaPresent, h.issue, h.inputs⟩

/-! ### The shapes of a command's meaning -/

theorem State.cur_writeR (s : State) (l : Lanes) (h : s.hasCtx s.issue.ctx = true) :
    (s.writeR l).cur = s.cur.withR l := s.cur_setCur _ h

theorem State.cur_setReady (s : State) (h : s.hasCtx s.issue.ctx = true) :
    s.setReady.cur = s.cur.withCState .ready := s.cur_setCur _ h

theorem State.writeR_frame (s : State) (l : Lanes) (h : s.hasCtx s.issue.ctx = true) : CommandFrame s (s.writeR l) :=
  CommandFrame.of_setCur s (s.cur.withR l) h rfl rfl rfl rfl

theorem State.setReady_frame (s : State) (h : s.hasCtx s.issue.ctx = true) : CommandFrame s s.setReady :=
  CommandFrame.of_setCur s (s.cur.withCState .ready) h rfl rfl rfl rfl

theorem CommandFrame.hasCtx {s t : State} (h : CommandFrame s t) (c : Nat) : t.hasCtx c = s.hasCtx c := by
  rw [Bool.eq_iff_iff, State.hasCtx_iff, State.hasCtx_iff, h.count]

theorem CommandFrame.trans {s t u : State} (h : CommandFrame s t) (k : CommandFrame t u) : CommandFrame s u :=
  ⟨k.count.trans h.count, fun c hc => (k.others c (by rw [h.issue]; exact hc)).trans (h.others c hc), k.a.trans h.a,
    k.b.trans h.b, k.k0.trans h.k0, k.k1.trans h.k1, k.lut.trans h.lut, k.gammaPresent.trans h.gammaPresent,
    k.issue.trans h.issue, k.inputs.trans h.inputs⟩

/-- `compute` completes with the results `f` gives for the snapshot. -/
theorem compute_done (f : Operands → Lanes) (s : State) (h : s.accepts) :
    ∃ t, compute f s = .next t ∧ CommandDone s t ∧ t.cur.r = f s.cur.operands := by
  have hc := s.cur_writeR (f s.snapshot) h.1
  refine ⟨(s.writeR (f s.snapshot)).completeWrite, rfl,
    ⟨(s.writeR_frame (f s.snapshot) h.1).respond _, ?_, ?_, ?_, rfl, rfl, rfl⟩, ?_⟩
  · simp [hc]
  · simp [hc]
  · simpa [hc] using h.2
  · rw [State.cur_completeWrite, hc, Context.withR_r, s.snapshot_of_accepts h]

/-- With LSTATE VALID, `computeLut` completes with the results `f` gives for the store and the snapshot, whether its
context was READY or waiting. -/
theorem computeLut_next (i : Instr) (f : LutStore → Operands → Lanes) (s : State) (h : s.hasCtx s.issue.ctx = true)
    (hv : s.lstate = .valid) :
    ∃ t, computeLut i f s = .next t ∧ CommandDone s t ∧ t.cur.r = f s.lut s.snapshot := by
  have h1 := s.cur_writeR (f s.lut s.snapshot) h
  have hf := s.writeR_frame (f s.lut s.snapshot) h
  have hh : (s.writeR (f s.lut s.snapshot)).hasCtx (s.writeR (f s.lut s.snapshot)).issue.ctx = true := by
    rw [hf.hasCtx]; exact h
  have h2 := (s.writeR (f s.lut s.snapshot)).cur_setReady hh
  refine ⟨(s.writeR (f s.lut s.snapshot)).setReady.completeWrite, by simp [computeLut, hv],
    ⟨(hf.trans ((s.writeR (f s.lut s.snapshot)).setReady_frame hh)).respond _, ?_, ?_, ?_, rfl, rfl, rfl⟩, ?_⟩ <;>
  simp [h1, h2]

/-- With LSTATE VALID, `computeLut` completes from a state that accepts its command. -/
theorem computeLut_done (i : Instr) (f : LutStore → Operands → Lanes) (s : State) (h : s.accepts) (hv : s.lstate = .valid) :
    ∃ t, computeLut i f s = .next t ∧ CommandDone s t ∧ t.cur.r = f s.lut s.cur.operands :=
  s.snapshot_of_accepts h ▸ computeLut_next i f s h.1 hv

/-- While LSTATE is not VALID, `computeLut` starts the sequencer if it is IDLE and waits. -/
theorem computeLut_waits (i : Instr) (f : LutStore → Operands → Lanes) (s : State) (hv : s.lstate ≠ .valid) :
    computeLut i f s = .next (s.startSequencer.waitLut i) := by
  cases h : s.lstate <;> simp_all [computeLut]

/-- With a provider attached, `computeGamma` completes with the results `f` gives for it and the snapshot. -/
theorem computeGamma_done (f : Config.GammaProvider → Operands → Lanes) (s : State) (h : s.accepts)
    (hg : s.gammaPresent = true) :
    ∃ t, computeGamma f s = .next t ∧ CommandDone s t ∧ t.cur.r = f Config.gamma s.cur.operands := by
  have := compute_done (f Config.gamma) s h
  simpa [computeGamma, compute, hg] using this

/-- With no provider attached, a gamma command is an IllegalCommand (30_encoding.md R108 (5)). -/
theorem computeGamma_absent (f : Config.GammaProvider → Operands → Lanes) (s : State) (hg : s.gammaPresent = false) :
    computeGamma f s = .next s.illegalCommand := by
  simp [computeGamma, hg]

/-- The issuing context after an IllegalCommand (60_exceptions.md R271, R272). -/
theorem State.illegalCommand_cur (s : State) (h : s.hasCtx s.issue.ctx = true) :
    s.illegalCommand.cur = s.cur.recordIllegal s.issue.word :=
  s.cur_setCur _ h

/-- An IllegalCommand leaves the command frame. -/
theorem State.illegalCommand_frame (s : State) (h : s.hasCtx s.issue.ctx = true) : CommandFrame s s.illegalCommand :=
  (CommandFrame.of_setCur s (s.cur.recordIllegal s.issue.word) h rfl rfl rfl rfl).respond _

/-- Every command's meaning has one of four shapes. -/
theorem exec_shape (i : Instr) :
    (i = .nop ∧ ∀ s, exec i s = .next s.completeWrite) ∨
    (∃ f, ∀ s, exec i s = compute f s) ∨
    (i ∈ lutReaders ∧ ∀ s, exec i s = computeLut i (lutResult i) s) ∨
    (opNeedsProvider (opFmtShape i).1 = true ∧ ∃ f, ∀ s, exec i s = computeGamma f s) := by
  cases i <;> first
    | exact .inl ⟨rfl, fun _ => rfl⟩
    | exact .inr (.inl ⟨_, fun _ => rfl⟩)
    | exact .inr (.inr (.inl ⟨by decide, fun _ => rfl⟩))
    | exact .inr (.inr (.inr ⟨rfl, _, fun _ => rfl⟩))

/-- A command whose meaning is `compute f` completes with what `f` gives. -/
theorem Completes.of_compute {i : Instr} {f : Operands → Lanes} {pre : State → Prop} {post : Operands → Lanes → Prop}
    (he : ∀ s, exec i s = compute f s) (hp : ∀ o, post o (f o)) : Completes i pre post := by
  intro s hs _
  obtain ⟨t, ht, hd, hr⟩ := compute_done f s hs
  exact ⟨t, (he s).trans ht, hd, hr ▸ hp _⟩

/-- A LUT-reading command completes, with LSTATE VALID and the final tables, with what `f` gives for them. -/
theorem Completes.of_computeLut {i : Instr} {f : LutStore → Operands → Lanes} {post : Operands → Lanes → Prop}
    (he : ∀ s, exec i s = computeLut i f s) (hp : ∀ o, post o (f LutStore.tables o)) :
    Completes i (fun s => s.lstate = .valid ∧ s.lut = LutStore.tables) post := by
  intro s hs hv
  obtain ⟨t, ht, hd, hr⟩ := computeLut_done i f s hs hv.1
  exact ⟨t, (he s).trans ht, hd, by rw [hr, hv.2]; exact hp _⟩

/-- A gamma command completes, with a provider attached, with what `f` gives for it. -/
theorem Completes.of_computeGamma {i : Instr} {f : Config.GammaProvider → Operands → Lanes}
    {post : Operands → Lanes → Prop} (he : ∀ s, exec i s = computeGamma f s) (hp : ∀ o, post o (f Config.gamma o)) :
    Completes i (fun s => s.gammaPresent = true) post := by
  intro s hs hg
  obtain ⟨t, ht, hd, hr⟩ := computeGamma_done f s hs hg
  exact ⟨t, (he s).trans ht, hd, hr ▸ hp _⟩

/-! ### The results of a shape -/

@[simp] theorem get_byShape (sh : Shape) (v : LaneIx → Word) (al : Word) (j : LaneIx) :
    Lanes.get (byShape sh v al) j = if isValueLane sh j then v j else if isAlphaLane sh j then al else 0 := by
  simp [byShape]

@[simp] theorem get_byUsed (sh : Shape) (v : LaneIx → Word) (j : LaneIx) :
    Lanes.get (byUsed sh v) j = if isUsedLane sh j then v j else 0 := by
  simp [byUsed]

@[simp] theorem get_lanewise (f : Word → Word → Word) (o : Operands) (j : LaneIx) :
    Lanes.get (lanewise f o) j = f (Lanes.get o.a j) (Lanes.get o.b j) := by
  simp [lanewise]

/-- `Out` keeps an integer that fits a word. -/
theorem out_toNat (v : Nat) (h : v < 2 ^ 32) : (out v).toNat = v := by
  simpa [out] using h

/-! ### Accesses -/

/-- Everything an access can do: a refusal, a read, a command, or a plain write. -/
theorem performAccess_cases (a : Access) (s : State) :
    (a.admitted = false ∧ performAccess a s = .fault (.busError (Config.pxaBase + a.off.toNat))) ∨
    (a.admitted = true ∧ a.kind = .read ∧ performAccess a s = .next (s.respond (.readData a.master (s.readWindow a.off)))) ∨
    (∃ v c, a.admitted = true ∧ a.kind = .write v ∧ s.cmdContext a.off = some c ∧
      performAccess a s = issueCommand a.master c v s) ∨
    (∃ v, a.admitted = true ∧ a.kind = .write v ∧ s.cmdContext a.off = none ∧
      performAccess a s = .next ((s.writeWindow a.off v).respond (.writeDone a.master))) := by
  unfold performAccess
  cases had : a.admitted with
  | false => simp
  | true =>
    cases hk : a.kind with
    | read => simp
    | write v => cases hc : s.cmdContext a.off with
      | none => simp
      | some c => simp

/-- The context of a CMD register is the one whose page it lies in, and it is present. -/
theorem State.cmdContext_some {s : State} {off : BitVec 12} {c : Nat} (h : s.cmdContext off = some c) :
    pageOf off = c + 1 ∧ s.hasCtx c = true ∧ regOf off = 0 := by
  unfold State.cmdContext at h
  split at h
  · simp at h
  · rename_i d hp
    split at h
    · rename_i hd
      obtain rfl := Option.some.inj h
      exact ⟨hp, hd.1, hd.2⟩
    · simp at h

/-- What the choice of the next input gives: it is one of the inputs, and the rest are the others in their order. -/
theorem State.pickFrom_split {s : State} {i : Input} : ∀ {held : List Nat} {l rest : List Input},
    s.pickFrom held l = some (i, rest) → ∃ pre post, l = pre ++ i :: post ∧ rest = pre ++ post ∧ Input.reset ∉ pre
  | _, [], _, h => by simp [State.pickFrom] at h
  | _, .reset :: l, rest, h => by
    simp only [State.pickFrom, Option.some.injEq, Prod.mk.injEq] at h
    obtain ⟨rfl, rfl⟩ := h
    exact ⟨[], l, rfl, rfl, by simp⟩
  | held, .access a :: l, rest, h => by
    simp only [State.pickFrom] at h
    split at h
    · split at h
      · simp at h
      · rename_i i' rest' hr
        simp only [Option.some.injEq, Prod.mk.injEq] at h
        obtain ⟨rfl, rfl⟩ := h
        obtain ⟨pre, post, rfl, rfl, hn⟩ := State.pickFrom_split hr
        exact ⟨.access a :: pre, post, rfl, rfl, by simpa using hn⟩
    · simp only [Option.some.injEq, Prod.mk.injEq] at h
      obtain ⟨rfl, rfl⟩ := h
      exact ⟨[], l, rfl, rfl, by simp⟩

/-- A waiting context found by the scan is in the list, at its number, and waits with that master and command. -/
theorem firstWaiting_some : ∀ {l : List Context} {n c m : Nat} {i : Instr}, firstWaiting n l = some (c, m, i) →
    ∃ x o, n ≤ c ∧ l[c - n]? = some x ∧ x.cstate = .waitLut m i o
  | [], _, _, _, _, h => by simp [firstWaiting] at h
  | x :: l, n, c, m, i, h => by
    unfold firstWaiting at h
    cases hx : x.cstate with
    | ready =>
      rw [hx] at h
      obtain ⟨y, o, hn, hy, hw⟩ := firstWaiting_some h
      refine ⟨y, o, by omega, ?_, hw⟩
      rw [show c - n = (c - (n + 1)) + 1 by omega]
      simpa using hy
    | waitLut m' i' o' =>
      rw [hx] at h
      obtain ⟨rfl, rfl, rfl⟩ : n = c ∧ m' = m ∧ i' = i := by simpa using h
      exact ⟨x, o', le_rfl, by simp, hx⟩

/-- No context waits where the scan finds none. -/
theorem firstWaiting_none : ∀ {l : List Context} {n : Nat}, firstWaiting n l = none → ∀ x ∈ l, x.cstate = .ready
  | [], _, _ => by simp
  | y :: l, n, h => by
    unfold firstWaiting at h
    cases hy : y.cstate with
    | waitLut m i o => simp [hy] at h
    | ready =>
      rw [hy] at h
      intro x hx
      rcases List.mem_cons.1 hx with rfl | hx
      · exact hy
      · exact firstWaiting_none h x hx

/-- What a step does: a reset, or after the sequencer's cycle a waiting command going on, an access, or nothing. -/
theorem step_cases (s : State) :
    (∃ rest, s.pick = some (.reset, rest) ∧ step s = .next (s.withInputs rest).resetInput) ∨
    (∃ c m i, (∀ rest, s.pick ≠ some (.reset, rest)) ∧ s.sequencerCycle.resumable = some (c, m, i) ∧
      step s = resumeCommand c m i s.sequencerCycle) ∨
    (∃ a rest, s.takesNext a rest ∧ step s = performAccess a (s.sequencerCycle.withInputs rest)) ∨
    (s.pick = none ∧ s.sequencerCycle.resumable = none ∧ step s = .next s.sequencerCycle) := by
  unfold step State.advance State.takesNext
  cases hp : s.pick with
  | none =>
    cases hr : s.sequencerCycle.resumable with
    | none => simp [State.act, hr]
    | some x => obtain ⟨c, m, i⟩ := x; simp [State.act, hr]
  | some x =>
    obtain ⟨i, rest⟩ := x
    cases i with
    | reset => simp
    | access a =>
      cases hr : s.sequencerCycle.resumable with
      | none => simp [State.act, hr]
      | some x => obtain ⟨c, m, i⟩ := x; simp [State.act, hr]

end Sys2Proof.Machine
end

