-- ==== Sys2Proof/Laws/PerInstr.lean ====
section
/-! SUPPORT. The family of per-instruction facts about the encoding: one lemma per command, on its own word. -/

namespace Sys2Proof.Laws.Encoding

/-- A command's word decodes to it and its fields meet R108, with a provider for the commands that need one. -/
def Statement (i : Instr) : Prop :=
  decode (encode i) = .instr i ∧ WellFormed true (fieldsOf (encode i)) = true ∧
    WellFormed false (fieldsOf (encode i)) = !opNeedsProvider (opFmtShape i).1

theorem nop : Statement .nop := by unfold Statement; decide
theorem mulU8 : Statement .mulU8 := by unfold Statement; decide
theorem mulU16 : Statement .mulU16 := by unfold Statement; decide
theorem mulF32 : Statement .mulF32 := by unfold Statement; decide
theorem lerpU8 : Statement .lerpU8 := by unfold Statement; decide
theorem lerpU16 : Statement .lerpU16 := by unfold Statement; decide
theorem lerpF32 : Statement .lerpF32 := by unfold Statement; decide
theorem prelerpU8 : Statement .prelerpU8 := by unfold Statement; decide
theorem prelerpU16 : Statement .prelerpU16 := by unfold Statement; decide
theorem prelerpF32 : Statement .prelerpF32 := by unfold Statement; decide
theorem mulcovU8 : Statement .mulcovU8 := by unfold Statement; decide
theorem mulcovU16 : Statement .mulcovU16 := by unfold Statement; decide
theorem mulcovF32 : Statement .mulcovF32 := by unfold Statement; decide
theorem s2lU8 : Statement .s2lU8 := by unfold Statement; decide
theorem s2lU8Ga : Statement .s2lU8Ga := by unfold Statement; decide
theorem s2lU8Rgb : Statement .s2lU8Rgb := by unfold Statement; decide
theorem s2lU8Rgba : Statement .s2lU8Rgba := by unfold Statement; decide
theorem s2lU16 : Statement .s2lU16 := by unfold Statement; decide
theorem s2lU16Ga : Statement .s2lU16Ga := by unfold Statement; decide
theorem s2lU16Rgb : Statement .s2lU16Rgb := by unfold Statement; decide
theorem s2lU16Rgba : Statement .s2lU16Rgba := by unfold Statement; decide
theorem s2lF32 : Statement .s2lF32 := by unfold Statement; decide
theorem s2lF32Ga : Statement .s2lF32Ga := by unfold Statement; decide
theorem s2lF32Rgb : Statement .s2lF32Rgb := by unfold Statement; decide
theorem s2lF32Rgba : Statement .s2lF32Rgba := by unfold Statement; decide
theorem l2sU8 : Statement .l2sU8 := by unfold Statement; decide
theorem l2sU8Ga : Statement .l2sU8Ga := by unfold Statement; decide
theorem l2sU8Rgb : Statement .l2sU8Rgb := by unfold Statement; decide
theorem l2sU8Rgba : Statement .l2sU8Rgba := by unfold Statement; decide
theorem l2sU16 : Statement .l2sU16 := by unfold Statement; decide
theorem l2sU16Ga : Statement .l2sU16Ga := by unfold Statement; decide
theorem l2sU16Rgb : Statement .l2sU16Rgb := by unfold Statement; decide
theorem l2sU16Rgba : Statement .l2sU16Rgba := by unfold Statement; decide
theorem l2sF32 : Statement .l2sF32 := by unfold Statement; decide
theorem l2sF32Ga : Statement .l2sF32Ga := by unfold Statement; decide
theorem l2sF32Rgb : Statement .l2sF32Rgb := by unfold Statement; decide
theorem l2sF32Rgba : Statement .l2sF32Rgba := by unfold Statement; decide
theorem s2lt : Statement .s2lt := by unfold Statement; decide
theorem l2st : Statement .l2st := by unfold Statement; decide
theorem premulU8Ga : Statement .premulU8Ga := by unfold Statement; decide
theorem premulU8Rgb : Statement .premulU8Rgb := by unfold Statement; decide
theorem premulU8Rgba : Statement .premulU8Rgba := by unfold Statement; decide
theorem premulU16Ga : Statement .premulU16Ga := by unfold Statement; decide
theorem premulU16Rgb : Statement .premulU16Rgb := by unfold Statement; decide
theorem premulU16Rgba : Statement .premulU16Rgba := by unfold Statement; decide
theorem premulF32Ga : Statement .premulF32Ga := by unfold Statement; decide
theorem premulF32Rgb : Statement .premulF32Rgb := by unfold Statement; decide
theorem premulF32Rgba : Statement .premulF32Rgba := by unfold Statement; decide
theorem demulU8Ga : Statement .demulU8Ga := by unfold Statement; decide
theorem demulU8Rgb : Statement .demulU8Rgb := by unfold Statement; decide
theorem demulU8Rgba : Statement .demulU8Rgba := by unfold Statement; decide
theorem demulU16Ga : Statement .demulU16Ga := by unfold Statement; decide
theorem demulU16Rgb : Statement .demulU16Rgb := by unfold Statement; decide
theorem demulU16Rgba : Statement .demulU16Rgba := by unfold Statement; decide
theorem demulF32Ga : Statement .demulF32Ga := by unfold Statement; decide
theorem demulF32Rgb : Statement .demulF32Rgb := by unfold Statement; decide
theorem demulF32Rgba : Statement .demulF32Rgba := by unfold Statement; decide
theorem gradU8 : Statement .gradU8 := by unfold Statement; decide
theorem gradU8Ga : Statement .gradU8Ga := by unfold Statement; decide
theorem gradU8Rgb : Statement .gradU8Rgb := by unfold Statement; decide
theorem gradU8Rgba : Statement .gradU8Rgba := by unfold Statement; decide
theorem gradU16 : Statement .gradU16 := by unfold Statement; decide
theorem gradU16Ga : Statement .gradU16Ga := by unfold Statement; decide
theorem gradU16Rgb : Statement .gradU16Rgb := by unfold Statement; decide
theorem gradU16Rgba : Statement .gradU16Rgba := by unfold Statement; decide
theorem gradF32 : Statement .gradF32 := by unfold Statement; decide
theorem gradF32Ga : Statement .gradF32Ga := by unfold Statement; decide
theorem gradF32Rgb : Statement .gradF32Rgb := by unfold Statement; decide
theorem gradF32Rgba : Statement .gradF32Rgba := by unfold Statement; decide
theorem addU8Ga : Statement .addU8Ga := by unfold Statement; decide
theorem addU8Rgb : Statement .addU8Rgb := by unfold Statement; decide
theorem addU8Rgba : Statement .addU8Rgba := by unfold Statement; decide
theorem addU16Ga : Statement .addU16Ga := by unfold Statement; decide
theorem addU16Rgb : Statement .addU16Rgb := by unfold Statement; decide
theorem addU16Rgba : Statement .addU16Rgba := by unfold Statement; decide
theorem addF32Ga : Statement .addF32Ga := by unfold Statement; decide
theorem addF32Rgb : Statement .addF32Rgb := by unfold Statement; decide
theorem addF32Rgba : Statement .addF32Rgba := by unfold Statement; decide
theorem gdirU8 : Statement .gdirU8 := by unfold Statement; decide
theorem gdirU8Ga : Statement .gdirU8Ga := by unfold Statement; decide
theorem gdirU8Rgb : Statement .gdirU8Rgb := by unfold Statement; decide
theorem gdirU8Rgba : Statement .gdirU8Rgba := by unfold Statement; decide
theorem gdirF32 : Statement .gdirF32 := by unfold Statement; decide
theorem gdirF32Ga : Statement .gdirF32Ga := by unfold Statement; decide
theorem gdirF32Rgb : Statement .gdirF32Rgb := by unfold Statement; decide
theorem gdirF32Rgba : Statement .gdirF32Rgba := by unfold Statement; decide
theorem ginvU8 : Statement .ginvU8 := by unfold Statement; decide
theorem ginvU8Ga : Statement .ginvU8Ga := by unfold Statement; decide
theorem ginvU8Rgb : Statement .ginvU8Rgb := by unfold Statement; decide
theorem ginvU8Rgba : Statement .ginvU8Rgba := by unfold Statement; decide
theorem ginvF32 : Statement .ginvF32 := by unfold Statement; decide
theorem ginvF32Ga : Statement .ginvF32Ga := by unfold Statement; decide
theorem ginvF32Rgb : Statement .ginvF32Rgb := by unfold Statement; decide
theorem ginvF32Rgba : Statement .ginvF32Rgba := by unfold Statement; decide
theorem gdir16 : Statement .gdir16 := by unfold Statement; decide
theorem ginv16 : Statement .ginv16 := by unfold Statement; decide

end Sys2Proof.Laws.Encoding
end

