-- ==== Sys2Proof/Laws/Srgb.lean ====
section
/-! SUPPORT. What the configuration's scalar cores are known to do on positive values, for both of them at once. -/

namespace Sys2Proof.Machine

/-- R172 (1) and (4). -/
theorem positiveMag_bound (F : Transfer) (m : Nat) (h : InNormalRange F m) : withinBound F m (positiveMag F m) = true := by
  cases F
  · exact Config.toLinear64.bound m h
  · exact Config.toSrgb64.bound m h

/-- R172 (2). -/
theorem positiveMag_mono (F : Transfer) (x y : Nat) (h : x ≤ y) (h1 : y ≤ 2 ^ b64.unitExp) (hr : Rises F x y) :
    positiveMag F x ≤ positiveMag F y := by
  cases F
  · exact Config.toLinear64.mono x y h h1 hr
  · exact Config.toSrgb64.mono x y h h1 hr

/-- A result is a finite binary64 value. -/
theorem positiveMag_representable (F : Transfer) (m : Nat) : ∃ n, n < infPattern ∧ positiveMag F m = magOfBits n := by
  cases F
  · exact Config.toLinear64.representable m
  · exact Config.toSrgb64.representable m

/-! ### The cores on each kind of value -/

@[simp] theorem transfer64_nan (F : Transfer) : transfer64 F .nan = .nan := rfl
@[simp] theorem transfer64_inf (F : Transfer) (n : Bool) : transfer64 F (.inf n) = .inf n := rfl
@[simp] theorem transfer64_zero (F : Transfer) (n : Bool) : transfer64 F (.fin n 0) = .fin n 0 := by cases n <;> rfl
theorem transfer64_pos (F : Transfer) {m : Nat} (h : 0 < m) : transfer64 F (.fin false m) = .fin false (positiveMag F m) := by
  cases m with
  | zero => exact absurd h (by decide)
  | succ m => rfl
theorem transfer64_neg (F : Transfer) {m : Nat} (h : 0 < m) : transfer64 F (.fin true m) = linearSegment F true m := by
  cases m with
  | zero => exact absurd h (by decide)
  | succ m => rfl

end Sys2Proof.Machine
end

