-- ==== Sys2Proof/Tests/Slice0.lean ====
section
/-! SUPPORT. Our own tests: small steps with results from 95_test_vectors.md or worked out by hand from the rules, the refusals
of ill-formed fields, the words of every command, and for every obligation with hypotheses a concrete case that meets them. -/


namespace Sys2Proof.Tests

/-! Each kernel evaluation below would wait in a thread of its own; checked one after the other they need one. -/

set_option Elab.async false

open Sys2Proof Sys2Proof.Machine

/-! ### WellFormed: one ill-formed term for each check of 30_encoding.md R108 -/

theorem test_wf_accepts : WellFormed false ⟨0x01, 0, 0, 0⟩ = true := by decide
theorem test_wf_rsvd : rsvdOk ⟨0x01, 0, 0, 1⟩ = false ∧ WellFormed true ⟨0x01, 0, 0, 1⟩ = false := by decide
theorem test_wf_op : opOk ⟨0x05, 0, 0, 0⟩ = false ∧ WellFormed true ⟨0x05, 0, 0, 0⟩ = false := by decide
theorem test_wf_fmt_reserved : fmtOk ⟨0x01, 3, 0, 0⟩ = false ∧ WellFormed true ⟨0x01, 3, 0, 0⟩ = false := by decide
theorem test_wf_fmt : fmtOk ⟨0x1B, 0, 0, 0⟩ = false ∧ WellFormed true ⟨0x1B, 0, 0, 0⟩ = false := by decide
theorem test_wf_shape : shapeOk ⟨0x10, 0, 0, 0⟩ = false ∧ WellFormed true ⟨0x10, 0, 0, 0⟩ = false := by decide
theorem test_wf_provider : providerOk false ⟨0x18, 0, 3, 0⟩ = false ∧ WellFormed false ⟨0x18, 0, 3, 0⟩ = false ∧
    WellFormed true ⟨0x18, 0, 3, 0⟩ = true := by decide

/-! ### Decoding

Words of each family written bit by bit from 30_encoding.md R101-R104: RSVD, SHAPE, FMT, OP. -/

theorem test_bits_nop : decode (0b0000000000000000000000_00_00_000000 : Word) = .instr .nop := by decide
theorem test_bits_mulU16 : decode (0b0000000000000000000000_00_01_000001 : Word) = .instr .mulU16 := by decide
theorem test_bits_lerpF32 : decode (0b0000000000000000000000_00_10_000010 : Word) = .instr .lerpF32 := by decide
theorem test_bits_prelerpU16 : decode (0b0000000000000000000000_00_01_000011 : Word) = .instr .prelerpU16 := by decide
theorem test_bits_mulcovF32 : decode (0b0000000000000000000000_00_10_000100 : Word) = .instr .mulcovF32 := by decide
theorem test_bits_s2lU8Rgba : decode (0b0000000000000000000000_11_00_001000 : Word) = .instr .s2lU8Rgba := by decide
theorem test_bits_l2sF32Ga : decode (0b0000000000000000000000_01_10_001001 : Word) = .instr .l2sF32Ga := by decide
theorem test_bits_s2lt : decode (0b0000000000000000000000_00_00_001010 : Word) = .instr .s2lt := by decide
theorem test_bits_l2st : decode (0b0000000000000000000000_00_00_001011 : Word) = .instr .l2st := by decide
theorem test_bits_premulF32Ga : decode (0b0000000000000000000000_01_10_010000 : Word) = .instr .premulF32Ga := by decide
theorem test_bits_demulU8Rgba : decode (0b0000000000000000000000_11_00_010001 : Word) = .instr .demulU8Rgba := by decide
theorem test_bits_gradU16Rgb : decode (0b0000000000000000000000_10_01_010010 : Word) = .instr .gradU16Rgb := by decide
theorem test_bits_addU8Rgba : decode (0b0000000000000000000000_11_00_010011 : Word) = .instr .addU8Rgba := by decide
theorem test_bits_gdirU8 : decode (0b0000000000000000000000_00_00_011000 : Word) = .instr .gdirU8 := by decide
theorem test_bits_ginvF32Rgba : decode (0b0000000000000000000000_11_10_011001 : Word) = .instr .ginvF32Rgba := by decide
theorem test_bits_gdir16 : decode (0b0000000000000000000000_00_00_011010 : Word) = .instr .gdir16 := by decide
theorem test_bits_ginv16 : decode (0b0000000000000000000000_00_01_011011 : Word) = .instr .ginv16 := by decide

/-- The words of R104, in the order of the opcode table. -/
def tableWords : List Word :=
  ([0x000, 0x001, 0x041, 0x081, 0x002, 0x042, 0x082, 0x003, 0x043, 0x083, 0x004, 0x044] : List Word) ++
  ([0x084, 0x008, 0x108, 0x208, 0x308, 0x048, 0x148, 0x248, 0x348, 0x088, 0x188, 0x288] : List Word) ++
  ([0x388, 0x009, 0x109, 0x209, 0x309, 0x049, 0x149, 0x249, 0x349, 0x089, 0x189, 0x289] : List Word) ++
  ([0x389, 0x00A, 0x00B, 0x110, 0x210, 0x310, 0x150, 0x250, 0x350, 0x190, 0x290, 0x390] : List Word) ++
  ([0x111, 0x211, 0x311, 0x151, 0x251, 0x351, 0x191, 0x291, 0x391, 0x012, 0x112, 0x212] : List Word) ++
  ([0x312, 0x052, 0x152, 0x252, 0x352, 0x092, 0x192, 0x292, 0x392, 0x113, 0x213, 0x313] : List Word) ++
  ([0x153, 0x253, 0x353, 0x193, 0x293, 0x393, 0x018, 0x118, 0x218, 0x318, 0x098, 0x198] : List Word) ++
  ([0x298, 0x398, 0x019, 0x119, 0x219, 0x319, 0x099, 0x199, 0x299, 0x399, 0x01A, 0x05B] : List Word)

/-- The command a word decodes to, if it decodes to one. -/
def commandOf (w : Word) : Option Instr :=
  match decode w with
  | .instr i => some i
  | .illegal _ => none

theorem test_every_command_has_its_word : tableWords.map commandOf = allInstrs.map some := by decide +kernel
theorem test_every_command_is_encoded : allInstrs.map encode = tableWords := by decide +kernel
theorem test_table_words_from_bytes : tableWords.map (fun w => decodeTableWord 32 w.toNat) = allInstrs.map some := by
  decide +kernel

/-- 95_test_vectors.md §3.1: the illegal words, R108 (1) to (4). -/
theorem test_illegal_words :
    (([0x40, 0x05, 0xC1, 0x101, 0x10, 0x401, 0x80000001, 0x58, 0x4A, 0x1B, 0x5A] : List Word).all fun w =>
      !WellFormed true (fieldsOf w) && commandOf w == none) = true := by decide +kernel
theorem test_illegal_reasons : decode 0x401 = .illegal .rsvdNotZero ∧ decode 0x05 = .illegal .reservedOp ∧
    decode 0xC1 = .illegal .illegalFmt ∧ decode 0x10 = .illegal .illegalShape := by decide
theorem test_short_word : (decodeBytes [1, 0, 0]).1 = .illegal .shortWord := by decide
theorem test_byte_order : decodeBytes [0x13, 0x03, 0, 0, 7] = (.instr .addU8Rgba, [7]) := by decide

/-! ### One command on a small machine -/

/-- Two contexts, the command issued on context 1 by master 5. -/
def small (l : LState) (gp : Bool) (o : Operands) : State :=
  { contexts := [Context.reset, { Context.reset with a := o.a, b := o.b, k0 := o.k0, k1 := o.k1, r := ⟨1, 2, 3, 4⟩ }]
    lstate := l, lut := LutStore.tables, seqCycle := 0, gammaPresent := gp, issue := ⟨5, 1, 0x18⟩, inputs := [], responses := [] }

/-- The command completes with these result lanes, raises nothing, leaves context 0 and answers master 5. -/
def gives (i : Instr) (a b : Lanes) (k1 k0 : Word) (r : Lanes) : Bool :=
  match exec i (small .valid true ⟨a, b, k0, k1⟩) with
  | .next t => t.cur.r == r && t.cur.operands == ⟨a, b, k0, k1⟩ && t.cur.errIll == false && t.cur.cstate == .ready &&
      t.ctx 0 == Context.reset && t.responses == [.writeDone 5]
  | .fault _ | .refused _ => false

theorem test_nop : gives .nop ⟨9, 9, 9, 9⟩ ⟨8, 8, 8, 8⟩ 7 6 ⟨1, 2, 3, 4⟩ = true := by decide
theorem test_mulU8_1 : gives .mulU8 ⟨200, 255, 128, 0⟩ ⟨100, 255, 128, 77⟩ 0 0 ⟨78, 255, 64, 0⟩ = true := by decide +kernel
theorem test_mulU8_2 : gives .mulU8 ⟨511, 1, 254, 17⟩ ⟨2, 1, 254, 15⟩ 0 0 ⟨2, 0, 253, 1⟩ = true := by decide +kernel
theorem test_mulU16_1 : gives .mulU16 ⟨65535, 32768, 1, 40000⟩ ⟨12345, 32768, 65535, 50000⟩ 0 0 ⟨12345, 16384, 1, 30518⟩ = true := by decide +kernel
theorem test_mulF32_1 : gives .mulF32 ⟨0x3F000000, 0x3F800000, 0x7F800000, 1⟩ ⟨0x3E800000, 0x7FC12345, 0, 0x3F000000⟩ 0 0 ⟨0x3E000000, 0x7FC00000, 0x7FC00000, 0⟩ = true := by decide +kernel
theorem test_lerpU8_1 : gives .lerpU8 ⟨10, 200, 0, 255⟩ ⟨200, 10, 255, 0⟩ 0 0x80 ⟨105, 105, 128, 127⟩ = true := by decide +kernel
theorem test_lerpU8_2 : gives .lerpU8 ⟨1, 0, 100, 100⟩ ⟨0, 1, 100, 37⟩ 0 0x1FF80 ⟨0, 1, 100, 68⟩ = true := by decide +kernel
theorem test_lerpU16_1 : gives .lerpU16 ⟨0, 65535, 1000, 30000⟩ ⟨65535, 0, 3000, 30000⟩ 0 0x8000 ⟨32768, 32767, 2000, 30000⟩ = true := by decide +kernel
theorem test_lerpF32_1 : gives .lerpF32 ⟨0x3DCCCCCD, 0x3F800000, 0, 0xFF800000⟩ ⟨0x3F666666, 0, 0x3F800000, 0x3F800000⟩ 0 0x3E99999A ⟨0x3EAE147B, 0x3F333333, 0x3E99999A, 0xFF800000⟩ = true := by decide +kernel
theorem test_lerpF32_2 : gives .lerpF32 ⟨0x3DCCCCCD, 0x3F800000, 0x80000000, 0x7F800000⟩ ⟨0x3F666666, 0x80000000, 0x3F800000, 0x3F800000⟩ 0 0x3F800000 ⟨0x3F666666, 0, 0x3F800000, 0x7FC00000⟩ = true := by decide +kernel
theorem test_prelerpU8_1 : gives .prelerpU8 ⟨100, 200, 255, 0⟩ ⟨50, 200, 255, 0⟩ 0 0x80 ⟨100, 255, 255, 0⟩ = true := by decide +kernel
theorem test_prelerpU8_2 : gives .prelerpU8 ⟨100, 200, 255, 10⟩ ⟨50, 200, 0, 0⟩ 0 0xFF ⟨50, 200, 0, 0⟩ = true := by decide +kernel
theorem test_prelerpU16_1 : gives .prelerpU16 ⟨30000, 65535, 0, 1⟩ ⟨20000, 65535, 7, 2⟩ 0 0x8000 ⟨35000, 65535, 7, 2⟩ = true := by decide +kernel
theorem test_prelerpF32_1 : gives .prelerpF32 ⟨0x3F000000, 0x3F4CCCCD, 0x3F800000, 0x3E800000⟩ ⟨0x3E800000, 0x3F19999A, 0x3F800000, 0x3E800000⟩ 0 0x3F000000 ⟨0x3F000000, 0x3F800000, 0x3FC00000, 0x3EC00000⟩ = true := by decide +kernel
theorem test_prelerpF32_2 : gives .prelerpF32 ⟨0x3F000000, 0x3F4CCCCD, 0x3F800000, 0x3E800000⟩ ⟨0x3E800000, 0x3F19999A, 0x3F800000, 0x3E800000⟩ 0 0 ⟨0x3F400000, 0x3FB33334, 0x40000000, 0x3F000000⟩ = true := by decide +kernel
theorem test_mulcovU8_1 : gives .mulcovU8 ⟨200, 255, 1, 77⟩ ⟨0x55AA1234, 0x55AA1234, 0x55AA1234, 0x55AA1234⟩ 0 0x80 ⟨100, 128, 1, 39⟩ = true := by decide +kernel
theorem test_mulcovU8_2 : gives .mulcovU8 ⟨200, 255, 1, 77⟩ ⟨0x55AA1234, 0x55AA1234, 0x55AA1234, 0x55AA1234⟩ 0 0xFFFFFF00 ⟨0, 0, 0, 0⟩ = true := by decide +kernel
theorem test_mulcovU16_1 : gives .mulcovU16 ⟨40000, 65535, 65535, 1⟩ ⟨0x55AA1234, 0x55AA1234, 0x55AA1234, 0x55AA1234⟩ 0 0x80 ⟨20078, 32896, 32896, 1⟩ = true := by decide +kernel
theorem test_mulcovU16_2 : gives .mulcovU16 ⟨40000, 65535, 65535, 1⟩ ⟨0x55AA1234, 0x55AA1234, 0x55AA1234, 0x55AA1234⟩ 0 1 ⟨157, 257, 257, 0⟩ = true := by decide +kernel
theorem test_mulcovF32_1 : gives .mulcovF32 ⟨0x3F800000, 0x3F000000, 0x7FC00001, 0xBF800000⟩ ⟨0x55AA1234, 0x55AA1234, 0x55AA1234, 0x55AA1234⟩ 0 0x80 ⟨0x3F008081, 0x3E808081, 0x7FC00000, 0xBF008081⟩ = true := by decide +kernel
theorem test_mulcovF32_2 : gives .mulcovF32 ⟨0x3F800000, 0x3F000000, 0x7FC00001, 0xBF800000⟩ ⟨0x55AA1234, 0x55AA1234, 0x55AA1234, 0x55AA1234⟩ 0 1 ⟨0x3B808081, 0x3B008081, 0x7FC00000, 0xBB808081⟩ = true := by decide +kernel
theorem test_s2lU8_1 : gives .s2lU8 ⟨0, 6, 7, 10⟩ ⟨0x55AA1234, 0x55AA1234, 0x55AA1234, 0x55AA1234⟩ 0 0 ⟨0, 0, 1, 1⟩ = true := by decide +kernel
theorem test_s2lU8Ga_1 : gives .s2lU8Ga ⟨511, 99, 99, 511⟩ ⟨0x55AA1234, 0x55AA1234, 0x55AA1234, 0x55AA1234⟩ 0 0 ⟨255, 0, 0, 255⟩ = true := by decide +kernel
theorem test_s2lU8Rgb_1 : gives .s2lU8Rgb ⟨1, 50, 254, 200⟩ ⟨0x55AA1234, 0x55AA1234, 0x55AA1234, 0x55AA1234⟩ 0 0 ⟨0, 8, 253, 0⟩ = true := by decide +kernel
theorem test_s2lU8Rgba_1 : gives .s2lU8Rgba ⟨128, 188, 255, 77⟩ ⟨0x55AA1234, 0x55AA1234, 0x55AA1234, 0x55AA1234⟩ 0 0 ⟨55, 128, 255, 77⟩ = true := by decide +kernel
theorem test_s2lU16_1 : gives .s2lU16 ⟨0, 32768, 65535, 10000⟩ ⟨0x55AA1234, 0x55AA1234, 0x55AA1234, 0x55AA1234⟩ 0 0 ⟨0, 14028, 65535, 1324⟩ = true := by decide +kernel
theorem test_s2lU16Ga_1 : gives .s2lU16Ga ⟨32768, 9, 9, 40000⟩ ⟨0x55AA1234, 0x55AA1234, 0x55AA1234, 0x55AA1234⟩ 0x55AA1234 0x55AA1234 ⟨14028, 0, 0, 40000⟩ = true := by decide +kernel
theorem test_s2lU16Rgb_1 : gives .s2lU16Rgb ⟨0, 32768, 65535, 10000⟩ ⟨0x55AA1234, 0x55AA1234, 0x55AA1234, 0x55AA1234⟩ 0x55AA1234 0x55AA1234 ⟨0, 14028, 65535, 0⟩ = true := by decide +kernel
theorem test_s2lU16Rgba_1 : gives .s2lU16Rgba ⟨1, 65534, 2, 40000⟩ ⟨0x55AA1234, 0x55AA1234, 0x55AA1234, 0x55AA1234⟩ 0 0 ⟨0, 65533, 0, 40000⟩ = true := by decide +kernel
theorem test_s2lF32_1 : gives .s2lF32 ⟨0xBF000000, 0x7F800000, 0x7FC00001, 0x80000000⟩ ⟨0x55AA1234, 0x55AA1234, 0x55AA1234, 0x55AA1234⟩ 0x55AA1234 0x55AA1234 ⟨0xBD1E8391, 0x7F800000, 0x7FC00000, 0x80000000⟩ = true := by decide +kernel
theorem test_s2lF32Ga_1 : gives .s2lF32Ga ⟨0xBF000000, 5, 6, 0x7FC00001⟩ ⟨0x55AA1234, 0x55AA1234, 0x55AA1234, 0x55AA1234⟩ 0x55AA1234 0x55AA1234 ⟨0xBD1E8391, 0, 0, 0x7FC00001⟩ = true := by decide +kernel
theorem test_s2lF32Rgb_1 : gives .s2lF32Rgb ⟨0xBF000000, 0xFF800000, 0x7FC00001, 7⟩ ⟨0x55AA1234, 0x55AA1234, 0x55AA1234, 0x55AA1234⟩ 0x55AA1234 0x55AA1234 ⟨0xBD1E8391, 0xFF800000, 0x7FC00000, 0⟩ = true := by decide +kernel
theorem test_s2lF32Rgba_1 : gives .s2lF32Rgba ⟨0xBF000000, 0xFF800000, 0, 0x7FC00001⟩ ⟨0x55AA1234, 0x55AA1234, 0x55AA1234, 0x55AA1234⟩ 0x55AA1234 0x55AA1234 ⟨0xBD1E8391, 0xFF800000, 0, 0x7FC00001⟩ = true := by decide +kernel
theorem test_l2sU8_1 : gives .l2sU8 ⟨1, 50, 128, 255⟩ ⟨0x55AA1234, 0x55AA1234, 0x55AA1234, 0x55AA1234⟩ 0x55AA1234 0x55AA1234 ⟨13, 122, 188, 255⟩ = true := by decide +kernel
theorem test_l2sU8Ga_1 : gives .l2sU8Ga ⟨128, 9, 9, 200⟩ ⟨0x55AA1234, 0x55AA1234, 0x55AA1234, 0x55AA1234⟩ 0 0 ⟨188, 0, 0, 200⟩ = true := by decide +kernel
theorem test_l2sU8Rgb_1 : gives .l2sU8Rgb ⟨1, 50, 128, 77⟩ ⟨0x55AA1234, 0x55AA1234, 0x55AA1234, 0x55AA1234⟩ 0x55AA1234 0x55AA1234 ⟨13, 122, 188, 0⟩ = true := by decide +kernel
theorem test_l2sU8Rgba_1 : gives .l2sU8Rgba ⟨1, 50, 128, 77⟩ ⟨0x55AA1234, 0x55AA1234, 0x55AA1234, 0x55AA1234⟩ 0 0 ⟨13, 122, 188, 77⟩ = true := by decide +kernel
theorem test_l2sU16_1 : gives .l2sU16 ⟨0, 32768, 65535, 10000⟩ ⟨0x55AA1234, 0x55AA1234, 0x55AA1234, 0x55AA1234⟩ 0 0 ⟨0, 48192, 65535, 27984⟩ = true := by decide +kernel
theorem test_l2sU16Ga_1 : gives .l2sU16Ga ⟨10000, 9, 9, 77⟩ ⟨0x55AA1234, 0x55AA1234, 0x55AA1234, 0x55AA1234⟩ 0x55AA1234 0x55AA1234 ⟨27984, 0, 0, 77⟩ = true := by decide +kernel
theorem test_l2sU16Rgb_1 : gives .l2sU16Rgb ⟨1, 6195, 40930, 65534⟩ ⟨0x55AA1234, 0x55AA1234, 0x55AA1234, 0x55AA1234⟩ 0 0 ⟨13, 22270, 53221, 0⟩ = true := by decide +kernel
theorem test_l2sU16Rgba_1 : gives .l2sU16Rgba ⟨1, 6195, 40930, 77⟩ ⟨0x55AA1234, 0x55AA1234, 0x55AA1234, 0x55AA1234⟩ 0x55AA1234 0x55AA1234 ⟨13, 22270, 53221, 77⟩ = true := by decide +kernel
theorem test_l2sF32_1 : gives .l2sF32 ⟨0xBF000000, 0x7F800000, 0x7FC00001, 0x80000000⟩ ⟨0x55AA1234, 0x55AA1234, 0x55AA1234, 0x55AA1234⟩ 0x55AA1234 0x55AA1234 ⟨0xC0CEB852, 0x7F800000, 0x7FC00000, 0x80000000⟩ = true := by decide +kernel
theorem test_l2sF32Ga_1 : gives .l2sF32Ga ⟨0xBF000000, 5, 6, 0x7FC00001⟩ ⟨0x55AA1234, 0x55AA1234, 0x55AA1234, 0x55AA1234⟩ 0x55AA1234 0x55AA1234 ⟨0xC0CEB852, 0, 0, 0x7FC00001⟩ = true := by decide +kernel
theorem test_l2sF32Rgb_1 : gives .l2sF32Rgb ⟨0xBF000000, 0xFF800000, 0x7FC00001, 7⟩ ⟨0x55AA1234, 0x55AA1234, 0x55AA1234, 0x55AA1234⟩ 0x55AA1234 0x55AA1234 ⟨0xC0CEB852, 0xFF800000, 0x7FC00000, 0⟩ = true := by decide +kernel
theorem test_l2sF32Rgba_1 : gives .l2sF32Rgba ⟨0xBF000000, 0xFF800000, 0, 0x7FC00001⟩ ⟨0x55AA1234, 0x55AA1234, 0x55AA1234, 0x55AA1234⟩ 0x55AA1234 0x55AA1234 ⟨0xC0CEB852, 0xFF800000, 0, 0x7FC00001⟩ = true := by decide +kernel
theorem test_s2lt_1 : gives .s2lt ⟨0, 1, 128, 255⟩ ⟨0x55AA1234, 0x55AA1234, 0x55AA1234, 0x55AA1234⟩ 0 0 ⟨0, 0x399F22B4, 0x3E5D0A89, 0x3F800000⟩ = true := by decide +kernel
theorem test_s2lt_2 : gives .s2lt ⟨256, 10, 11, 0xFFFFFFFF⟩ ⟨0x55AA1234, 0x55AA1234, 0x55AA1234, 0x55AA1234⟩ 0 0 ⟨0, 0x3B46EB61, 0x3B5B518E, 0x3F800000⟩ = true := by decide +kernel
theorem test_l2st_1 : gives .l2st ⟨0, 1, 128, 255⟩ ⟨0x55AA1234, 0x55AA1234, 0x55AA1234, 0x55AA1234⟩ 0 0 ⟨0, 0x3D4C251F, 0x3F3C94E5, 0x3F800000⟩ = true := by decide +kernel
theorem test_premulU8Ga_1 : gives .premulU8Ga ⟨200, 7, 7, 64⟩ ⟨0x55AA1234, 0x55AA1234, 0x55AA1234, 0x55AA1234⟩ 0 0 ⟨50, 0, 0, 64⟩ = true := by decide +kernel
theorem test_premulU8Rgb_1 : gives .premulU8Rgb ⟨1, 2, 3, 4⟩ ⟨0x55AA1234, 0x55AA1234, 0x55AA1234, 0x55AA1234⟩ 0 0 ⟨1, 2, 3, 0⟩ = true := by decide +kernel
theorem test_premulU8Rgba_1 : gives .premulU8Rgba ⟨100, 150, 200, 128⟩ ⟨0x55AA1234, 0x55AA1234, 0x55AA1234, 0x55AA1234⟩ 0 0 ⟨50, 75, 100, 128⟩ = true := by decide +kernel
theorem test_premulU8Rgba_2 : gives .premulU8Rgba ⟨100, 150, 200, 0⟩ ⟨0x55AA1234, 0x55AA1234, 0x55AA1234, 0x55AA1234⟩ 0 0 ⟨0, 0, 0, 0⟩ = true := by decide +kernel
theorem test_premulU16Ga_1 : gives .premulU16Ga ⟨40000, 7, 7, 32768⟩ ⟨0x55AA1234, 0x55AA1234, 0x55AA1234, 0x55AA1234⟩ 0x55AA1234 0x55AA1234 ⟨20000, 0, 0, 32768⟩ = true := by decide +kernel
theorem test_premulU16Rgb_1 : gives .premulU16Rgb ⟨1, 2, 3, 4⟩ ⟨0x55AA1234, 0x55AA1234, 0x55AA1234, 0x55AA1234⟩ 0x55AA1234 0x55AA1234 ⟨1, 2, 3, 0⟩ = true := by decide +kernel
theorem test_premulU16Rgba_1 : gives .premulU16Rgba ⟨40000, 65535, 1, 32768⟩ ⟨0x55AA1234, 0x55AA1234, 0x55AA1234, 0x55AA1234⟩ 0 0 ⟨20000, 32768, 1, 32768⟩ = true := by decide +kernel
theorem test_premulF32Ga_1 : gives .premulF32Ga ⟨0x3F000000, 0, 0, 0x40000000⟩ ⟨0x55AA1234, 0x55AA1234, 0x55AA1234, 0x55AA1234⟩ 0 0 ⟨0x3F800000, 0, 0, 0x40000000⟩ = true := by decide +kernel
theorem test_premulF32Rgb_1 : gives .premulF32Rgb ⟨0x7FC00001, 2, 3, 4⟩ ⟨0x55AA1234, 0x55AA1234, 0x55AA1234, 0x55AA1234⟩ 0x55AA1234 0x55AA1234 ⟨0x7FC00001, 2, 3, 0⟩ = true := by decide +kernel
theorem test_premulF32Rgba_1 : gives .premulF32Rgba ⟨0x3F000000, 0x3F800000, 0x3E4CCCCD, 0x3F000000⟩ ⟨0x55AA1234, 0x55AA1234, 0x55AA1234, 0x55AA1234⟩ 0 0 ⟨0x3E800000, 0x3F000000, 0x3DCCCCCD, 0x3F000000⟩ = true := by decide +kernel
theorem test_premulF32Rgba_2 : gives .premulF32Rgba ⟨0x3F000000, 0x3F800000, 0x3E4CCCCD, 0x7FC00001⟩ ⟨0x55AA1234, 0x55AA1234, 0x55AA1234, 0x55AA1234⟩ 0 0 ⟨0x7FC00000, 0x7FC00000, 0x7FC00000, 0x7FC00001⟩ = true := by decide +kernel
theorem test_demulU8Ga_1 : gives .demulU8Ga ⟨1, 0, 0, 1⟩ ⟨0x55AA1234, 0x55AA1234, 0x55AA1234, 0x55AA1234⟩ 0 0 ⟨255, 0, 0, 1⟩ = true := by decide +kernel
theorem test_demulU8Rgb_1 : gives .demulU8Rgb ⟨1, 2, 3, 4⟩ ⟨0x55AA1234, 0x55AA1234, 0x55AA1234, 0x55AA1234⟩ 0x55AA1234 0x55AA1234 ⟨1, 2, 3, 0⟩ = true := by decide +kernel
theorem test_demulU8Rgba_1 : gives .demulU8Rgba ⟨50, 75, 100, 128⟩ ⟨0x55AA1234, 0x55AA1234, 0x55AA1234, 0x55AA1234⟩ 0 0 ⟨99, 149, 199, 128⟩ = true := by decide +kernel
theorem test_demulU8Rgba_2 : gives .demulU8Rgba ⟨200, 100, 0, 100⟩ ⟨0x55AA1234, 0x55AA1234, 0x55AA1234, 0x55AA1234⟩ 0 0 ⟨255, 255, 0, 100⟩ = true := by decide +kernel
theorem test_demulU16Ga_1 : gives .demulU16Ga ⟨20000, 7, 7, 32768⟩ ⟨0x55AA1234, 0x55AA1234, 0x55AA1234, 0x55AA1234⟩ 0x55AA1234 0x55AA1234 ⟨39999, 0, 0, 32768⟩ = true := by decide +kernel
theorem test_demulU16Rgb_1 : gives .demulU16Rgb ⟨1, 2, 65535, 4⟩ ⟨0x55AA1234, 0x55AA1234, 0x55AA1234, 0x55AA1234⟩ 0x55AA1234 0x55AA1234 ⟨1, 2, 65535, 0⟩ = true := by decide +kernel
theorem test_demulU16Rgba_1 : gives .demulU16Rgba ⟨20000, 32768, 1, 32768⟩ ⟨0x55AA1234, 0x55AA1234, 0x55AA1234, 0x55AA1234⟩ 0 0 ⟨39999, 65535, 1, 32768⟩ = true := by decide +kernel
theorem test_demulF32Ga_1 : gives .demulF32Ga ⟨0x3E800000, 0, 0, 0x80000000⟩ ⟨0x55AA1234, 0x55AA1234, 0x55AA1234, 0x55AA1234⟩ 0 0 ⟨0, 0, 0, 0x80000000⟩ = true := by decide +kernel
theorem test_demulF32Ga_2 : gives .demulF32Ga ⟨0x7F800000, 0, 0, 0x3F000000⟩ ⟨0x55AA1234, 0x55AA1234, 0x55AA1234, 0x55AA1234⟩ 0 0 ⟨0x3F800000, 0, 0, 0x3F000000⟩ = true := by decide +kernel
theorem test_demulF32Rgb_1 : gives .demulF32Rgb ⟨0x7FC00001, 0x40000000, 3, 4⟩ ⟨0x55AA1234, 0x55AA1234, 0x55AA1234, 0x55AA1234⟩ 0x55AA1234 0x55AA1234 ⟨0x7FC00001, 0x40000000, 3, 0⟩ = true := by decide +kernel
theorem test_demulF32Rgba_1 : gives .demulF32Rgba ⟨0x3E800000, 0x3F19999A, 0x3DCCCCCD, 0x3F000000⟩ ⟨0x55AA1234, 0x55AA1234, 0x55AA1234, 0x55AA1234⟩ 0 0 ⟨0x3F000000, 0x3F800000, 0x3E4CCCCD, 0x3F000000⟩ = true := by decide +kernel
theorem test_gradU8_1 : gives .gradU8 ⟨10, 200, 0, 255⟩ ⟨200, 10, 255, 0⟩ 0x3FE00000 0 ⟨105, 105, 128, 127⟩ = true := by decide +kernel
theorem test_gradU8Ga_1 : gives .gradU8Ga ⟨10, 200, 0, 255⟩ ⟨200, 10, 255, 0⟩ 0x3FE00000 0 ⟨105, 0, 0, 127⟩ = true := by decide +kernel
theorem test_gradU8Rgb_1 : gives .gradU8Rgb ⟨10, 200, 0, 255⟩ ⟨200, 10, 255, 0⟩ 0x3FE00000 0 ⟨105, 105, 128, 0⟩ = true := by decide +kernel
theorem test_gradU8Rgba_1 : gives .gradU8Rgba ⟨10, 200, 0, 255⟩ ⟨200, 10, 255, 0⟩ 0x3FD00000 0 ⟨58, 152, 64, 191⟩ = true := by decide +kernel
theorem test_gradU8Rgba_2 : gives .gradU8Rgba ⟨10, 200, 0, 255⟩ ⟨200, 10, 255, 0⟩ 0x7FF80000 0 ⟨10, 200, 0, 255⟩ = true := by decide +kernel
theorem test_gradU16_1 : gives .gradU16 ⟨0, 65535, 1000, 7⟩ ⟨65535, 0, 3000, 8⟩ 0x3FE00000 0 ⟨32768, 32767, 2000, 8⟩ = true := by decide +kernel
theorem test_gradU16Ga_1 : gives .gradU16Ga ⟨0, 65535, 1000, 7⟩ ⟨65535, 0, 3000, 8⟩ 0x3FE00000 0 ⟨32768, 0, 0, 8⟩ = true := by decide +kernel
theorem test_gradU16Rgb_1 : gives .gradU16Rgb ⟨0, 65535, 1000, 7⟩ ⟨65535, 0, 3000, 8⟩ 0x3FD33333 0x33333333 ⟨19661, 45874, 1600, 0⟩ = true := by decide +kernel
theorem test_gradU16Rgba_1 : gives .gradU16Rgba ⟨0, 65535, 1000, 7⟩ ⟨65535, 0, 3000, 8⟩ 0x3FE00000 0 ⟨32768, 32767, 2000, 8⟩ = true := by decide +kernel
theorem test_gradF32_1 : gives .gradF32 ⟨0x3DCCCCCD, 0x3F800000, 0, 0x3F800000⟩ ⟨0x3F666666, 0, 0x3F800000, 0x3F000000⟩ 0x3FD33333 0x33333333 ⟨0x3EAE147B, 0x3F333333, 0x3E99999A, 0x3F59999A⟩ = true := by decide +kernel
theorem test_gradF32Ga_1 : gives .gradF32Ga ⟨0x3DCCCCCD, 0x3F800000, 0, 0x3F800000⟩ ⟨0x3F666666, 0, 0x3F800000, 0x3F000000⟩ 0x3FD33333 0x33333333 ⟨0x3EAE147B, 0, 0, 0x3F59999A⟩ = true := by decide +kernel
theorem test_gradF32Rgb_1 : gives .gradF32Rgb ⟨0x3DCCCCCD, 0x3F800000, 0, 0x3F800000⟩ ⟨0x3F666666, 0, 0x3F800000, 0x3F000000⟩ 0x3FD33333 0x33333333 ⟨0x3EAE147B, 0x3F333333, 0x3E99999A, 0⟩ = true := by decide +kernel
theorem test_gradF32Rgba_1 : gives .gradF32Rgba ⟨0x3DCCCCCD, 0x3F800000, 0, 0x3F800000⟩ ⟨0x3F666666, 0, 0x3F800000, 0x3F000000⟩ 0x3FD33333 0x33333333 ⟨0x3EAE147B, 0x3F333333, 0x3E99999A, 0x3F59999A⟩ = true := by decide +kernel
theorem test_gradF32Rgba_2 : gives .gradF32Rgba ⟨0x3DCCCCCD, 0x3F800000, 0, 0x3F800000⟩ ⟨0x3F666666, 0, 0x3F800000, 0x3F000000⟩ 0x3FF00000 0 ⟨0x3F666666, 0, 0x3F800000, 0x3F000000⟩ = true := by decide +kernel
theorem test_addU8Ga_1 : gives .addU8Ga ⟨100, 0, 0, 100⟩ ⟨200, 9, 9, 100⟩ 0 0x40 ⟨150, 0, 0, 125⟩ = true := by decide +kernel
theorem test_addU8Rgb_1 : gives .addU8Rgb ⟨10, 200, 30, 40⟩ ⟨1, 2, 3, 99⟩ 0 0xFF ⟨1, 2, 3, 0⟩ = true := by decide +kernel
theorem test_addU8Rgba_1 : gives .addU8Rgba ⟨10, 20, 30, 40⟩ ⟨255, 0, 0, 255⟩ 0 0xFF ⟨255, 0, 0, 255⟩ = true := by decide +kernel
theorem test_addU8Rgba_2 : gives .addU8Rgba ⟨10, 200, 30, 40⟩ ⟨255, 100, 0, 255⟩ 0 0x80 ⟨138, 250, 30, 168⟩ = true := by decide +kernel
theorem test_addU16Ga_1 : gives .addU16Ga ⟨1000, 9, 9, 0⟩ ⟨65535, 9, 9, 65535⟩ 0 0x80 ⟨33896, 0, 0, 32896⟩ = true := by decide +kernel
theorem test_addU16Rgb_1 : gives .addU16Rgb ⟨1000, 60000, 0, 0⟩ ⟨65535, 10000, 2, 65535⟩ 0 0xFF ⟨65535, 10000, 2, 0⟩ = true := by decide +kernel
theorem test_addU16Rgba_1 : gives .addU16Rgba ⟨1000, 60000, 0, 0⟩ ⟨65535, 10000, 2, 65535⟩ 0 0x80 ⟨33896, 65020, 1, 32896⟩ = true := by decide +kernel
theorem test_addU16Rgba_2 : gives .addU16Rgba ⟨1000, 60000, 0, 0⟩ ⟨65535, 10000, 2, 65535⟩ 0 0xFF ⟨65535, 10000, 2, 65535⟩ = true := by decide +kernel
theorem test_addF32Ga_1 : gives .addF32Ga ⟨0x3F000000, 1, 1, 0x3F000000⟩ ⟨0x3E800000, 1, 1, 0x3F000000⟩ 0 0x80 ⟨0x3F202020, 0, 0, 0x3F404040⟩ = true := by decide +kernel
theorem test_addF32Rgb_1 : gives .addF32Rgb ⟨0x3F000000, 0x3F666666, 0, 0x3F000000⟩ ⟨0x3E800000, 0x3F000000, 0x7FC00001, 0x3F000000⟩ 0 0xFF ⟨0x3E800000, 0x3F000000, 0x7FC00001, 0⟩ = true := by decide +kernel
theorem test_addF32Rgba_1 : gives .addF32Rgba ⟨0x3F000000, 0x3F666666, 0, 0x3F000000⟩ ⟨0x3E800000, 0x3F000000, 0x3F000000, 0x3F000000⟩ 0 0x80 ⟨0x3F202020, 0x3F800000, 0x3E808081, 0x3F404040⟩ = true := by decide +kernel
theorem test_addF32Rgba_2 : gives .addF32Rgba ⟨0x3F000000, 0x3F666666, 0, 0x3F000000⟩ ⟨0x3E800000, 0x3F000000, 0x7FC00001, 0x3F800000⟩ 0 0xFF ⟨0x3E800000, 0x3F000000, 0x7FC00001, 0x3F800000⟩ = true := by decide +kernel

/-! ### The gamma commands, with the fixture provider of 95_test_vectors.md §2 (its square roots rounded half up by integers) -/

/-- floor(sqrt(n) + 1/2) for n below 2^18. -/
def rootRounded (n : Nat) : Nat := bisect (fun r => (2 * r - 1) ^ 2 ≤ 4 * n) 10 0 513

/-- The provider of the gamma rows; its binary32 square root is given where a test asks for it. -/
def provSq : Config.GammaProvider :=
  { dir8 := fun v => BitVec.ofNat 32 (mulW 8 v.toNat v.toNat)
    inv8 := fun v => BitVec.ofNat 32 (rootRounded (255 * v.toNat))
    dir16 := fun v => BitVec.ofNat 32 (roundedProduct 8 (257 * v.toNat) v.toNat)
    inv16 := fun v => BitVec.ofNat 32 (bisect (fun r => (2 * r - 1) ^ 2 * 65535 ≤ 4 * 255 ^ 2 * v.toNat) 9 0 256)
    dirF := fun b => canonBits32 (mulF (f32 b) (f32 b))
    invF := fun b => if b = 0x3E800000 then 0x3F000000 else if b = 0x40000000 then 0x3FB504F3 else 0x7FC00000 }

/-- Only A counts for a gamma command. -/
def onA (a : Lanes) : Operands := ⟨a, ⟨9, 9, 9, 9⟩, 8, 7⟩

/-- The command completes with what f gives for the machine's provider. -/
def givesGamma (i : Instr) (f : Config.GammaProvider → Operands → Lanes) : Prop :=
  ∀ a, ∃ t, exec i (small .valid true (onA a)) = .next t ∧ t.cur.r = f Config.gamma (onA a)

theorem test_gdirU8_value : gdirU8 .v4 provSq (onA ⟨128, 255, 16, 77⟩) = ⟨64, 255, 1, 23⟩ := by decide +kernel
theorem test_gdirU8_runs : givesGamma .gdirU8 (gdirU8 .v4) := fun _ => ⟨_, rfl, rfl⟩
theorem test_gdirU8Ga_value : gdirU8 .ga provSq (onA ⟨128, 9, 9, 77⟩) = ⟨64, 0, 0, 77⟩ := by decide +kernel
theorem test_gdirU8Ga_runs : givesGamma .gdirU8Ga (gdirU8 .ga) := fun _ => ⟨_, rfl, rfl⟩
theorem test_gdirU8Rgb_value : gdirU8 .rgb provSq (onA ⟨128, 255, 16, 77⟩) = ⟨64, 255, 1, 0⟩ := by decide +kernel
theorem test_gdirU8Rgb_runs : givesGamma .gdirU8Rgb (gdirU8 .rgb) := fun _ => ⟨_, rfl, rfl⟩
theorem test_gdirU8Rgba_value : gdirU8 .rgba provSq (onA ⟨128, 255, 16, 77⟩) = ⟨64, 255, 1, 77⟩ := by decide +kernel
theorem test_gdirU8Rgba_runs : givesGamma .gdirU8Rgba (gdirU8 .rgba) := fun _ => ⟨_, rfl, rfl⟩
theorem test_gdirF32_value : gdirF32 .v4 provSq (onA ⟨0x3F000000, 0xC0000000, 0x7FC00001, 0x3E800000⟩) = ⟨0x3E800000, 0x40800000, 0x7FC00000, 0x3D800000⟩ := by decide +kernel
theorem test_gdirF32_runs : givesGamma .gdirF32 (gdirF32 .v4) := fun _ => ⟨_, rfl, rfl⟩
theorem test_gdirF32Ga_value : gdirF32 .ga provSq (onA ⟨0x3F000000, 1, 1, 0x3E99999A⟩) = ⟨0x3E800000, 0, 0, 0x3E99999A⟩ := by decide +kernel
theorem test_gdirF32Ga_runs : givesGamma .gdirF32Ga (gdirF32 .ga) := fun _ => ⟨_, rfl, rfl⟩
theorem test_gdirF32Rgb_value : gdirF32 .rgb provSq (onA ⟨0x3F000000, 0xC0000000, 0x7FC00001, 9⟩) = ⟨0x3E800000, 0x40800000, 0x7FC00000, 0⟩ := by decide +kernel
theorem test_gdirF32Rgb_runs : givesGamma .gdirF32Rgb (gdirF32 .rgb) := fun _ => ⟨_, rfl, rfl⟩
theorem test_gdirF32Rgba_value : gdirF32 .rgba provSq (onA ⟨0x3F000000, 0xC0000000, 0x7FC00001, 0x3E99999A⟩) = ⟨0x3E800000, 0x40800000, 0x7FC00000, 0x3E99999A⟩ := by decide +kernel
theorem test_gdirF32Rgba_runs : givesGamma .gdirF32Rgba (gdirF32 .rgba) := fun _ => ⟨_, rfl, rfl⟩
theorem test_ginvU8_value : ginvU8 .v4 provSq (onA ⟨0, 1, 2, 3⟩) = ⟨0, 16, 23, 28⟩ := by decide +kernel
theorem test_ginvU8_runs : givesGamma .ginvU8 (ginvU8 .v4) := fun _ => ⟨_, rfl, rfl⟩
theorem test_ginvU8Ga_value : ginvU8 .ga provSq (onA ⟨64, 9, 9, 77⟩) = ⟨128, 0, 0, 77⟩ := by decide +kernel
theorem test_ginvU8Ga_runs : givesGamma .ginvU8Ga (ginvU8 .ga) := fun _ => ⟨_, rfl, rfl⟩
theorem test_ginvU8Rgb_value : ginvU8 .rgb provSq (onA ⟨64, 255, 1, 77⟩) = ⟨128, 255, 16, 0⟩ := by decide +kernel
theorem test_ginvU8Rgb_runs : givesGamma .ginvU8Rgb (ginvU8 .rgb) := fun _ => ⟨_, rfl, rfl⟩
theorem test_ginvU8Rgba_value : ginvU8 .rgba provSq (onA ⟨64, 255, 1, 77⟩) = ⟨128, 255, 16, 77⟩ := by decide +kernel
theorem test_ginvU8Rgba_runs : givesGamma .ginvU8Rgba (ginvU8 .rgba) := fun _ => ⟨_, rfl, rfl⟩
theorem test_ginvF32_value : ginvF32 .v4 provSq (onA ⟨0x3E800000, 0xBF800000, 0x40000000, 0x3E800000⟩) = ⟨0x3F000000, 0x7FC00000, 0x3FB504F3, 0x3F000000⟩ := by decide +kernel
theorem test_ginvF32_runs : givesGamma .ginvF32 (ginvF32 .v4) := fun _ => ⟨_, rfl, rfl⟩
theorem test_ginvF32Ga_value : ginvF32 .ga provSq (onA ⟨0x3E800000, 1, 1, 0x3E99999A⟩) = ⟨0x3F000000, 0, 0, 0x3E99999A⟩ := by decide +kernel
theorem test_ginvF32Ga_runs : givesGamma .ginvF32Ga (ginvF32 .ga) := fun _ => ⟨_, rfl, rfl⟩
theorem test_ginvF32Rgb_value : ginvF32 .rgb provSq (onA ⟨0x3E800000, 0xBF800000, 0x40000000, 9⟩) = ⟨0x3F000000, 0x7FC00000, 0x3FB504F3, 0⟩ := by decide +kernel
theorem test_ginvF32Rgb_runs : givesGamma .ginvF32Rgb (ginvF32 .rgb) := fun _ => ⟨_, rfl, rfl⟩
theorem test_ginvF32Rgba_value : ginvF32 .rgba provSq (onA ⟨0x3E800000, 0xBF800000, 0x40000000, 0x3E99999A⟩) = ⟨0x3F000000, 0x7FC00000, 0x3FB504F3, 0x3E99999A⟩ := by decide +kernel
theorem test_ginvF32Rgba_runs : givesGamma .ginvF32Rgba (ginvF32 .rgba) := fun _ => ⟨_, rfl, rfl⟩
theorem test_gdir16_value : gdir16Lanes provSq (onA ⟨0, 128, 255, 511⟩) = ⟨0, 16513, 65535, 65535⟩ := by decide +kernel
theorem test_gdir16_runs : givesGamma .gdir16 gdir16Lanes := fun _ => ⟨_, rfl, rfl⟩
theorem test_ginv16_value : ginv16Lanes provSq (onA ⟨0, 16448, 65535, 65536⟩) = ⟨0, 128, 255, 0⟩ := by decide +kernel
theorem test_ginv16_runs : givesGamma .ginv16 ginv16Lanes := fun _ => ⟨_, rfl, rfl⟩

/-! ### Errors (95_test_vectors.md §3.1) -/

/-- A machine of n contexts that stands still, as after reset but for the provider and LSTATE. -/
def still (n : Nat) (l : LState) (gp : Bool) : State :=
  { contexts := List.replicate n Context.reset, lstate := l, lut := LutStore.tables, seqCycle := 0, gammaPresent := gp
    issue := ⟨0, 0, 0⟩, inputs := [], responses := [] }

/-- ERR_ILL and ERRCMD of context 0 after a CMD write on it. -/
def errorOf (s : State) (w : Word) : Option (Bool × Word) :=
  match issueCommand 3 0 w s with
  | .next t => some ((t.ctx 0).errIll, (t.ctx 0).errcmd)
  | .fault _ | .refused _ => none

/-- Context 0 with 0x40 recorded. -/
def failed : State := (still 2 .idle true).setCtx 0 (Context.reset.recordIllegal 0x40)

theorem test_illegal_first : errorOf (still 2 .idle true) 0x40 = some (true, 0x40) := by decide
theorem test_illegal_second : errorOf failed 0x05 = some (true, 0x40) := by decide
theorem test_legal_keeps_error : errorOf failed 0x01 = some (true, 0x40) := by decide
theorem test_gamma_absent : errorOf (still 2 .idle false) 0x318 = some (true, 0x318) := by decide
theorem test_gamma_present : errorOf (still 2 .idle true) 0x318 = some (false, 0) := by decide

/-! ### Bus accesses (95_test_vectors.md §3.2) and LUT states (§3.3), on two contexts -/

/-- What the machine answers to an access: the state's answers after it. -/
def answers (s : State) (a : Access) : Option (List Response) :=
  match performAccess a s with
  | .next t => some t.responses
  | .fault _ | .refused _ => none

theorem test_read_id : answers (still 2 .idle true) ⟨1, 4, 0x000, .read⟩ = some [.readData 1 0x41470010] := by decide
theorem test_read_ginfo : answers (still 2 .idle true) ⟨1, 4, 0x004, .read⟩ = some [.readData 1 0x00001102] := by decide
theorem test_read_gstatus : answers (still 2 .busy true) ⟨1, 4, 0x008, .read⟩ = some [.readData 1 2] := by decide
theorem test_read_cmd : answers (still 2 .idle true) ⟨1, 4, 0x100, .read⟩ = some [.readData 1 0] := by decide
theorem test_read_reserved_page : answers (still 2 .idle true) ⟨1, 4, 0x300, .read⟩ = some [.readData 1 0] := by decide
theorem test_write_a0 : ((still 2 .idle true).writeWindow 0x110 0xDEADBEEF).readWindow 0x110 = 0xDEADBEEF := by decide
theorem test_write_r0 : ((still 2 .idle true).writeWindow 0x140 5).contexts = (still 2 .idle true).contexts := by decide
theorem test_byte_write_faults : performAccess ⟨1, 1, 0x110, .write 7⟩ (still 2 .idle true) =
    .fault (.busError (Config.pxaBase + 0x110)) := rfl
theorem test_misaligned_read_faults : performAccess ⟨1, 4, 0x112, .read⟩ (still 2 .idle true) =
    .fault (.busError (Config.pxaBase + 0x112)) := rfl
theorem test_gctrl_starts : ((still 2 .idle true).writeWindow 0x00C 1).lstate = .busy := by decide
theorem test_gctrl_zero : ((still 2 .idle true).writeWindow 0x00C 0).lstate = .idle := by decide
theorem test_gctrl_valid : ((still 2 .valid true).writeWindow 0x00C 1).lstate = .valid := by decide

/-- LSTATE after a CMD write on context 1. -/
def lstateAfter (s : State) (w : Word) : Option LState :=
  match issueCommand 3 1 w s with
  | .next t => some t.lstate
  | .fault _ | .refused _ => none

theorem test_mul_reads_no_lut : lstateAfter (still 2 .idle true) 0x001 = some .idle := by decide
theorem test_s2lU16_reads_no_lut : lstateAfter (still 2 .idle true) 0x048 = some .idle := by decide
theorem test_s2lU8_starts_sequencer : lstateAfter (still 2 .idle true) 0x008 = some .busy := by decide
theorem test_last_cycle : ((still 2 .busy true).sequencerCycle.lstate = .valid) ∨ 1 < Config.tInit := by
  rcases (still 2 .busy true).sequencerCycle_cases with ⟨h, _⟩ | ⟨_, h, _⟩ | ⟨_, _, h, _⟩
  · exact absurd rfl h
  · exact .inr (by simpa [still] using h)
  · exact .inl h

/-- 41_srgb.md R188 (a) and 95_test_vectors.md E3: both 8-bit tables rise. -/
theorem test_tables_rise : ((s2l8Rows.flatten.zip s2l8Rows.flatten.tail).all (fun p => p.1 ≤ p.2) &&
    (l2s8Rows.flatten.zip l2s8Rows.flatten.tail).all (fun p => p.1 ≤ p.2)) = true := by decide +kernel

/-- The exact curve at i/255 lies strictly between the midpoints of the word's value and its two neighbours'. -/
def isNearest (F : Transfer) (i w : Nat) : Bool :=
  match f32 (BitVec.ofNat 32 (w - 1)), f32 (BitVec.ofNat 32 w), f32 (BitVec.ofNat 32 (w + 1)) with
  | .fin false a, .fin false m, .fin false b =>
    !geTransfer F (a + m) (2 * 2 ^ 149) i 255 && !leTransfer F (m + b) (2 * 2 ^ 149) i 255
  | _, _, _ => false

/-- 41_srgb.md R175, R176: each binary32 entry but the first, which is 0, is the exact curve rounded to nearest. -/
theorem test_float_tables_nearest : ((List.range 256).all fun i => i == 0 || (isNearest .toLinear i (s2lfRows.flatten.getD i 0) &&
    isNearest .toSrgb i (l2sfRows.flatten.getD i 0))) = true := by decide +kernel
theorem witness_LutFloatLookups_entries : 0 < 256 ∧ 255 < 256 ∧ s2lfRows.flatten.getD 0 1 = 0 ∧ l2sfRows.flatten.getD 0 1 = 0 ∧
    s2lfRows.flatten.getD 255 0 = 0x3F800000 ∧ l2sfRows.flatten.getD 255 0 = 0x3F800000 := by decide +kernel

/-- 95_test_vectors.md E2. -/
theorem test_tables_round_trip : ([0, 5, 10, 20, 60, 128, 200, 254, 255].map fun n =>
    l2s8Rows.flatten.getD (s2l8Rows.flatten.getD n 0) 0) = [0, 0, 13, 22, 61, 128, 200, 254, 255] := by decide +kernel

/-- From reset every command of the table runs as the first one (10_state.md R37): step answers a next state. -/
theorem test_every_command_runs_first : (allInstrs.all fun i =>
    match step (State.reset.withFetchWord 32 (encode i).toNat) with
    | .next _ => true
    | .fault _ | .refused _ => false) = true := by decide +kernel

/-! ### The host's programs (30_encoding.md R111, R112) -/

theorem test_assemble : assemble "ADD.U8.RGBA" = some 0x313 ∧ assemble "GINV16" = some 0x5B ∧ assemble "PREMUL.U8" = none := by
  decide +kernel

/-! ### Cases that meet the hypotheses of each obligation -/

/-- Two contexts, the second waiting for L2ST on its registers for master 5. -/
def waitingIn (l : LState) : State :=
  (still 2 l true).setCtx 1 (Context.reset.withCState (.waitLut 5 .l2st Context.reset.operands))

/-- It waits while the sequencer is at work. -/
def waiting : State := waitingIn .busy

theorem still_inv (n : Nat) (l : LState) (gp : Bool) (h : 1 ≤ n ∧ n ≤ 15) : PxaInv (still n l gp) where
  count := by simpa [still] using h
  issued := by rw [State.hasCtx_iff]; simp only [still, List.length_replicate]; omega
  idle := fun _ x hx => by rw [List.eq_of_mem_replicate hx]; rfl
  busy := fun _ => Nat.succ_pos _
  valid := fun _ => rfl
  err := fun x hx => by rw [List.eq_of_mem_replicate hx]; exact ⟨.inl rfl, fun h => absurd h (by decide)⟩
  wait := fun x hx => by rw [List.eq_of_mem_replicate hx]; intro m i o h; cases h

theorem waitingIn_inv (l : LState) (hl : l ≠ .idle) : PxaInv (waitingIn l) where
  count := (by decide : 1 ≤ 2 ∧ 2 ≤ 15)
  issued := rfl
  idle := fun h => absurd h hl
  busy := fun _ => Nat.succ_pos _
  valid := fun _ => rfl
  err := fun x hx => by
    rcases List.mem_or_eq_of_mem_set hx with hx | rfl
    · rw [List.eq_of_mem_replicate hx]; exact ⟨.inl rfl, fun h => absurd h (by decide)⟩
    · exact ⟨.inl rfl, fun h => absurd h (by decide)⟩
  wait := fun x hx => by
    rcases List.mem_or_eq_of_mem_set hx with hx | rfl
    · rw [List.eq_of_mem_replicate hx]; intro m i o h; cases h
    · intro m i o h; cases h; exact ⟨by decide, rfl⟩

/-- The waiting machine, with a command of the held master 5, one of master 6 to the busy context and one of master 7 to
context 0 on the bus. -/
def crowded : State :=
  waiting.withInputs [.access ⟨5, 4, 0x100, .write 1⟩, .access ⟨6, 4, 0x210, .write 1⟩, .access ⟨7, 4, 0x100, .write 1⟩]

/-- An idle machine with one write on the bus. -/
def asked (off : BitVec 12) (v : Word) : State := (still 2 .idle true).withInputs [.access ⟨1, 4, off, .write v⟩]

theorem witness_ResetInputAbandons : (waiting.withInputs [.access ⟨5, 4, 0x100, .read⟩, .reset]).pick =
    some (.reset, [.access ⟨5, 4, 0x100, .read⟩]) := by decide
theorem witness_GinfoRegister_one : 1 ≤ (still 1 .idle true).contexts.length ∧ (still 1 .idle true).contexts.length ≤ 15 := by
  decide
theorem witness_GinfoRegister_fifteen : 1 ≤ (still 15 .idle true).contexts.length ∧
    (still 15 .idle true).contexts.length ≤ 15 := by decide
theorem witness_ReservedOffsets_global : (0x010 : BitVec 12).toNat % 4 = 0 ∧ 0x010 ≤ (0x010 : BitVec 12).toNat ∧
    (0x0FC : BitVec 12).toNat % 4 = 0 ∧ (0x0FC : BitVec 12).toNat < 0x100 := by decide
theorem witness_ReservedOffsets_absent : (0x300 : BitVec 12).toNat % 4 = 0 ∧
    ((still 2 .idle true).contexts.length + 1) * 0x100 ≤ (0x300 : BitVec 12).toNat ∧ (0xFFC : BitVec 12).toNat % 4 = 0 ∧
    ((still 2 .idle true).contexts.length + 1) * 0x100 ≤ (0xFFC : BitVec 12).toNat := by decide
theorem witness_ReservedOffsets_context : (0x10C : BitVec 12).toNat % 0x100 = 0x0C ∧ (0x138 : BitVec 12).toNat % 0x100 = 0x38 ∧
    (0x13C : BitVec 12).toNat % 0x100 = 0x3C ∧ (0x150 : BitVec 12).toNat % 0x100 = 0x50 ∧ 0x100 ≤ (0x10C : BitVec 12).toNat ∧
    (0xFFC : BitVec 12).toNat % 0x100 = 0xFC ∧ (0x10C : BitVec 12).toNat % 4 = 0 := by decide
theorem witness_OperandRegisters : 0 < (still 1 .idle true).contexts.length ∧ 0 < 15 ∧
    14 < (still 15 .idle true).contexts.length ∧ 14 < 15 := by decide
theorem witness_ResultRegistersReadOnly : 0 < (still 1 .idle true).contexts.length ∧ 0 < 15 ∧
    14 < (still 15 .idle true).contexts.length ∧ 14 < 15 := witness_OperandRegisters
theorem witness_CstatusRegister : 0 < failed.contexts.length ∧ 0 < 15 ∧ (failed.ctx 0).errIll = true := by decide
theorem witness_MalformedAccessFaults : (1 ≠ 4 ∨ (0x110 : BitVec 12).toNat % 4 ≠ 0) ∧
    ((4 : Nat) ≠ 4 ∨ (0x112 : BitVec 12).toNat % 4 ≠ 0) := by decide
/-- A misaligned read waits on the bus of an idle machine. -/
def misaligned : State := (still 2 .idle true).withInputs [.access ⟨1, 4, 0x112, .read⟩]
theorem witness_MalformedAccessFaults_step : step misaligned = .fault (.busError (Config.pxaBase + 0x112)) := rfl
theorem witness_ReadsHaveNoSideEffects : Access.admitted ⟨1, 4, 0xFFC, .read⟩ = true := by decide
theorem witness_IllegalWordRecorded : failed.hasCtx 0 = true ∧ failed.legalWord 0x05 = false ∧
    (still 2 .idle false).hasCtx 1 = true ∧ (still 2 .idle false).legalWord 0x318 = false := by decide
theorem witness_LegalWordRaisesNothing : failed.hasCtx 0 = true ∧ failed.legalWord 0x01 = true ∧
    failed.legalWord 0x318 = true := by decide
theorem witness_StepPerformsAccess : (asked 0x110 7).takesNext ⟨1, 4, 0x110, .write 7⟩ [] := by
  unfold State.takesNext; decide +kernel
theorem witness_StepRunsDecodedCommand : (asked 0x200 0x313).takesNext ⟨1, 4, 0x200, .write 0x313⟩ [] ∧
    Access.admitted ⟨1, 4, 0x200, .write 0x313⟩ = true ∧ (asked 0x200 0x313).cmdContext 0x200 = some 1 ∧
    decode 0x313 = .instr .addU8Rgba := by
  unfold State.takesNext; decide +kernel
theorem witness_DecodesIffLegal : decode 0x318 = .instr .gdirU8Rgba ∧ decode 0x001 = .instr .mulU8 := by decide
theorem witness_ExecFrame : ∃ t, (small .valid true (onA ⟨1, 2, 3, 4⟩)).hasCtx 1 = true ∧
    exec .mulU8 (small .valid true (onA ⟨1, 2, 3, 4⟩)) = .next t := ⟨_, by decide, rfl⟩

/-- The state in which the completion statements apply: it accepts a command, LSTATE is VALID with the final tables, and
a provider is attached. -/
theorem witness_Completes : ∃ s : State, s.accepts ∧ s.lstate = .valid ∧ s.lut = LutStore.tables ∧ s.gammaPresent = true :=
  ⟨small .valid true (onA ⟨1, 2, 3, 4⟩), by unfold State.accepts; decide, rfl, rfl, rfl⟩
theorem witness_NopChangesNothing : ∃ s : State, s.accepts :=
  ⟨small .idle false (onA ⟨1, 2, 3, 4⟩), by unfold State.accepts; decide⟩
theorem witness_MulIntRoundsHalfUp : ∃ s : State, s.accepts :=
  ⟨small .idle false (onA ⟨1, 2, 3, 4⟩), by unfold State.accepts; decide⟩
theorem witness_LerpIntIsNearest : ∃ s : State, s.accepts :=
  ⟨small .idle false (onA ⟨1, 2, 3, 4⟩), by unfold State.accepts; decide⟩
theorem witness_PrelerpIntSaturates : ∃ s : State, s.accepts :=
  ⟨small .idle false (onA ⟨1, 2, 3, 4⟩), by unfold State.accepts; decide⟩
theorem witness_MulcovIntScales : ∃ s : State, s.accepts :=
  ⟨small .idle false (onA ⟨1, 2, 3, 4⟩), by unfold State.accepts; decide⟩
theorem witness_ScalarF32Complete : ∃ s : State, s.accepts :=
  ⟨small .idle false (onA ⟨1, 2, 3, 4⟩), by unfold State.accepts; decide⟩
theorem witness_LutConversionsU8 : ∃ s : State, s.accepts ∧ s.lstate = .valid ∧ s.lut = LutStore.tables :=
  ⟨small .valid true (onA ⟨1, 2, 3, 4⟩), by unfold State.accepts; decide, rfl, rfl⟩
theorem witness_LutFloatLookups : ∃ s : State, s.accepts ∧ s.lstate = .valid ∧ s.lut = LutStore.tables :=
  ⟨small .valid true (onA ⟨1, 2, 3, 4⟩), by unfold State.accepts; decide, rfl, rfl⟩
theorem witness_ConversionsU16 : ∃ s : State, s.accepts :=
  ⟨small .idle false (onA ⟨1, 2, 3, 4⟩), by unfold State.accepts; decide⟩
theorem witness_ConversionsF32 : ∃ s : State, s.accepts :=
  ⟨small .idle false (onA ⟨1, 2, 3, 4⟩), by unfold State.accepts; decide⟩
theorem witness_PremulInt : ∃ s : State, s.accepts :=
  ⟨small .idle false (onA ⟨1, 2, 3, 4⟩), by unfold State.accepts; decide⟩
theorem witness_DemulInt : ∃ s : State, s.accepts :=
  ⟨small .idle false (onA ⟨1, 2, 3, 4⟩), by unfold State.accepts; decide⟩
theorem witness_PremulDemulF32 : ∃ s : State, s.accepts :=
  ⟨small .idle false (onA ⟨1, 2, 3, 4⟩), by unfold State.accepts; decide⟩
theorem witness_GradIntIsNearest : ∃ s : State, s.accepts :=
  ⟨small .idle false (onA ⟨1, 2, 3, 4⟩), by unfold State.accepts; decide⟩
theorem witness_GradF32Completes : ∃ s : State, s.accepts :=
  ⟨small .idle false (onA ⟨1, 2, 3, 4⟩), by unfold State.accepts; decide⟩
theorem witness_AddInt : ∃ s : State, s.accepts :=
  ⟨small .idle false (onA ⟨1, 2, 3, 4⟩), by unfold State.accepts; decide⟩
theorem witness_AddF32Completes : ∃ s : State, s.accepts :=
  ⟨small .idle false (onA ⟨1, 2, 3, 4⟩), by unfold State.accepts; decide⟩
theorem witness_GammaColours : ∃ s : State, s.accepts ∧ s.gammaPresent = true :=
  ⟨small .idle true (onA ⟨1, 2, 3, 4⟩), by unfold State.accepts; decide, rfl⟩
theorem witness_GammaRawLookups : ∃ s : State, s.accepts ∧ s.gammaPresent = true :=
  ⟨small .idle true (onA ⟨1, 2, 3, 4⟩), by unfold State.accepts; decide, rfl⟩
theorem witness_ResultIsOfSnapshot : ∃ s s' t t' : State, s ≠ s' ∧ s.accepts ∧ s'.accepts ∧
    s.cur.operands = s'.cur.operands ∧ s.lstate = .valid ∧ s'.lstate = .valid ∧ s.lut = LutStore.tables ∧
    s'.lut = LutStore.tables ∧ s.gammaPresent = true ∧ s'.gammaPresent = true ∧ exec .s2lU8 s = .next t ∧
    exec .s2lU8 s' = .next t' :=
  ⟨small .valid true (onA ⟨1, 2, 3, 4⟩), (small .valid true (onA ⟨1, 2, 3, 4⟩)).respond (.writeDone 3), _, _,
    fun h => absurd (congrArg State.responses h) (by decide), by unfold State.accepts; decide,
    by unfold State.accepts; decide, rfl, rfl, rfl, rfl, rfl, rfl, rfl, rfl, rfl⟩
theorem witness_MulKernelLaws : 255 ≤ maxW 8 ∧ 0 ≤ maxW 8 ∧ 65535 ≤ maxW 16 ∧ 8 ∈ [8, 16] ∧ 16 ∈ [8, 16] := by decide
theorem witness_LerpKernelLaws : 255 ≤ maxW 8 ∧ 0 ≤ maxW 8 ∧ 65535 ≤ maxW 16 ∧ 8 ∈ [8, 16] ∧ 16 ∈ [8, 16] := by decide
theorem witness_RoundingIsToNearestEven : b32 ∈ [b32, b64] ∧ b64 ∈ [b32, b64] ∧ 0 < 1 ∧ Representable b32 (2 ^ 24 + 2) ∧
    2 ^ 24 + 2 ≠ roundMag b32 (2 ^ 24 + 1) 1 ∧
    |((2 ^ 24 + 2 : Nat) * 1 : Int) - (2 ^ 24 + 1 : Nat)| = |(roundMag b32 (2 ^ 24 + 1) 1 * 1 : Int) - (2 ^ 24 + 1 : Nat)| :=
  ⟨by decide, by decide, by decide, ⟨2 ^ 23 + 1, 1, by decide, by decide⟩, by decide, by decide⟩
/-- Half an ulp below 2^128 is rounded to infinity, less than that is not. -/
theorem witness_RoundingIsToNearestEven_overflow : 2 ^ (128 + 149) ≤ roundMag b32 (2 ^ 277 - 2 ^ 252) 1 ∧
    roundMag b32 (2 ^ 277 - 2 ^ 252 - 1) 1 < 2 ^ (128 + 149) ∧ 2 ^ (1024 + 1074) ≤ roundMag b64 (2 ^ 2098 - 2 ^ 2044) 1 ∧
    roundMag b64 (2 ^ 2098 - 2 ^ 2044 - 1) 1 < 2 ^ (1024 + 1074) := by decide +kernel
theorem witness_RoundingIsToNearestEven_operations : (0 : Nat) ≠ 1 ∧ fmul b32 (f32 0x80000000) (f32 0x3F800000) = .fin true 0 ∧
    fadd b32 (f32 0x80000000) (f32 0x00000000) = .fin false 0 ∧ fdiv b32 (f32 0xBF800000) (f32 0x40000000) = .fin true (2 ^ 148) ∧
    fsub b32 (f32 0x7F800000) (f32 0x7F800000) = .nan ∧ fmul b32 (f32 0x7F800000) (f32 0x00000000) = .nan := by decide +kernel
theorem witness_FloatBitsRoundTrip_values : (0xFF800000 : Word).extractLsb' 23 8 = 0xFF ∧ (0xFF800000 : Word).extractLsb' 0 23 = 0 ∧
    (0x807FFFFF : Word).extractLsb' 23 8 = 0 ∧ (0x7F7FFFFF : Word).extractLsb' 23 8 = 0xFE ∧
    (0xFFF0000000000000 : DWord).extractLsb' 52 11 = 0x7FF ∧ (0xFFF0000000000000 : DWord).extractLsb' 0 52 = 0 ∧
    (0x000FFFFFFFFFFFFF : DWord).extractLsb' 52 11 = 0 ∧ (0x7FEFFFFFFFFFFFFF : DWord).extractLsb' 52 11 = 0x7FE := by decide
theorem witness_FloatBitsRoundTrip : f32 0x3F800000 ≠ .nan ∧ f32 0x7FC12345 = .nan := by decide +kernel
theorem witness_FloatKernelsNanFree : f32 0x3F800000 = .fin false (2 ^ 149) ∧ f32 0x00000001 = .fin false 1 ∧
    f32 0x80000000 = .fin true 0 := by decide +kernel
theorem witness_LutCommandsWait : .s2lt ∈ lutReaders ∧ (∀ l : LState, l ≠ .valid → (small l true (onA ⟨1, 2, 3, 4⟩)).accepts ∧
    (small l true (onA ⟨1, 2, 3, 4⟩)).lstate ≠ .valid) ∧ LState.idle ≠ .valid ∧ LState.busy ≠ .valid :=
  ⟨by decide, fun _ h => ⟨⟨rfl, rfl⟩, h⟩, by decide, by decide⟩
theorem witness_ConversionIsExactRounding : 255 ∈ [255, 65535] ∧ 65535 ∈ [255, 65535] ∧ 65535 ≤ 65535 ∧ 0 ≤ 255 := by decide
theorem witness_ScalarCoreWithinBound : f32 0x00000001 = .fin false 1 ∧ (0 < 1 ∧ 1 ≤ 2 ^ 149) ∧
    f32 0x3F800000 = .fin false (2 ^ 149) ∧ 0 < 2 ^ 149 ∧ f32 0x7F7FFFFF = .fin false ((2 ^ 24 - 1) * 2 ^ 253) ∧
    0 < (2 ^ 24 - 1) * 2 ^ 253 := by decide +kernel
/-- 0 and 2^-15 on one side of the threshold of to_srgb; 1/2 and 1 on the other. -/
theorem witness_ScalarCoreWithinBound_monotone : f64 0 = .fin false 0 ∧ f64 0x3F00000000000000 = .fin false (2 ^ 1059) ∧
    0 ≤ 2 ^ 1059 ∧ (0 * 10000000 ≤ 31308 * 2 ^ 1074 ↔ 2 ^ 1059 * 10000000 ≤ 31308 * 2 ^ 1074) ∧
    f64 0x3FE0000000000000 = .fin false (2 ^ 1073) ∧ f64 0x3FF0000000000000 = .fin false (2 ^ 1074) ∧ 2 ^ 1073 ≤ 2 ^ 1074 ∧
    (2 ^ 1073 * 10000000 ≤ 31308 * 2 ^ 1074 ↔ 2 ^ 1074 * 10000000 ≤ 31308 * 2 ^ 1074) := by decide +kernel
/-- 2^-15 and 1, on the two sides of the threshold of to_srgb, where the exact curve does not fall. -/
theorem witness_ScalarCoreWithinBound_across : f64 0x3F00000000000000 = .fin false (2 ^ 1059) ∧
    f64 0x3FF0000000000000 = .fin false (2 ^ 1074) ∧ ¬ (2 ^ 1059 * 10000000 ≤ 31308 * 2 ^ 1074 ↔ 2 ^ 1074 * 10000000 ≤ 31308 * 2 ^ 1074) ∧
    transferReal .toSrgb (((2 ^ 1059 : Nat) : ℝ) / 2 ^ 1074) ≤ transferReal .toSrgb (((2 ^ 1074 : Nat) : ℝ) / 2 ^ 1074) := by
  refine ⟨by decide +kernel, by decide +kernel, by decide +kernel, ?_⟩
  have h1 : ((2 ^ 1059 : Nat) : ℝ) / 2 ^ 1074 = 1 / 2 ^ 15 := by
    rw [Nat.cast_pow, Nat.cast_ofNat, show (2 : ℝ) ^ 1074 = 2 ^ 1059 * 2 ^ 15 from pow_add 2 1059 15, div_mul_eq_div_div,
      div_self (pow_ne_zero _ two_ne_zero)]
  have h2 : ((2 ^ 1074 : Nat) : ℝ) / 2 ^ 1074 = 1 := by
    rw [Nat.cast_pow, Nat.cast_ofNat, div_self (pow_ne_zero _ two_ne_zero)]
  rw [h1, h2]
  simp only [transferReal, toSrgbReal, Real.one_rpow]
  norm_num
/-- The floor, one conforming core, at 0.5 gives the values of 95_test_vectors.md §2.4. -/
theorem test_floor_core_half : canonBits32 (fconvert b64 b32 (.fin false (floorMag .toLinear (2 ^ 1073)))) = 0x3E5B2D9A ∧
    canonBits32 (fconvert b64 b32 (.fin false (floorMag .toSrgb (2 ^ 1073)))) = 0x3F3C405B := by decide +kernel
theorem witness_ScalarCoreSpecialValues : 0 < 1 ∧ fconvert b32 b64 (f32 0xBF000000) = .fin true (2 ^ 1073) := by decide +kernel
theorem witness_ScalarCoreSpecialValues_word : f32 0xBF000000 = .fin true (2 ^ 148) ∧ 0 < 2 ^ 148 ∧
    f32 0x80000001 = .fin true 1 := by decide +kernel
theorem witness_PremulDemulRoundTrip : 255 ≤ 255 ∧ 125 ≤ 125 ∧ 125 ≤ 255 ∧ 65535 ≤ 65535 ∧ 32765 ≤ 32765 ∧ 32765 ≤ 65535 := by
  decide
theorem witness_GradFractionClamps : f64 0x7FF8000000000000 = .nan ∧ belowZero (f64 0x8000000000000001) = true ∧
    isZero (f64 0x8000000000000000) = true ∧ aboveOne b64 (f64 0x3FF0000000000001) = true ∧
    f64 0x3FF0000000000000 = fone b64 ∧ gradInt 8 (f64 0x3FF0000000000001) = 255 ∧ gradInt 8 (f64 0x8000000000000001) = 0 ∧
    gradF32 (f64 0x8000000000000001) = .fin false 0 ∧ gradF32 (f64 0x3FF0000000000001) = fone b32 := by
  decide +kernel
theorem witness_GradFractionClamps_inside : f64 0x3FE0000000000000 ≠ .nan ∧ belowZero (f64 0x3FE0000000000000) = false ∧
    aboveOne b64 (f64 0x3FE0000000000000) = false ∧ gradF32 (f64 0x3FE0000000000000) = .fin false (2 ^ 148) ∧
    gradF32 (f64 0x8000000000000000) = .fin true 0 ∧ f64 0x3FE0000000000000 = .fin false (2 ^ 1073) ∧ 2 ^ 1073 ≤ 2 ^ 1074 ∧
    f64 0x8000000000000000 = .fin true 0 ∧ belowZero (f64 0x8000000000000000) = false := by decide +kernel
/-- ik of k = 0.25 at U8 and of k = 0.3 at U16 (42_color.md R215's examples). -/
theorem test_ik : gradInt 8 (f64 0x3FD0000000000000) = 64 ∧ gradInt 16 (f64 0x3FD3333333333333) = 19661 := by decide +kernel

/-- The identity provider of 43_gamma.md R257. -/
def provId : Config.GammaProvider :=
  { dir8 := fun v => v.setWidth 32, inv8 := fun v => v.setWidth 32, dir16 := fun v => v.setWidth 32 * 257
    inv16 := fun v => (v >>> 8).setWidth 32, dirF := id, invF := id }

theorem witness_GammaIdentityProvider : (∀ v, provId.dir8 v = v.setWidth 32) ∧ (∀ v, provId.inv8 v = v.setWidth 32) ∧
    (∀ v, provId.dirF v = v) ∧ (∀ v, provId.invF v = v) ∧ (∀ v, provId.dir16 v = v.setWidth 32 * 257) ∧
    (∀ v, provId.inv16 v = (v >>> 8).setWidth 32) ∧ isUsedLane .ga 3 = true :=
  ⟨fun _ => rfl, fun _ => rfl, fun _ => rfl, fun _ => rfl, fun _ => rfl, fun _ => rfl, rfl⟩
theorem test_identity_rows : ginvF32 .ga provId (onA ⟨0x7FC00001, 5, 6, 0x3F000000⟩) = ⟨0x7FC00001, 0, 0, 0x3F000000⟩ ∧
    gdir16Lanes provId (onA ⟨0, 128, 255, 0x1FF⟩) = ⟨0, 32896, 65535, 65535⟩ ∧
    ginv16Lanes provId (onA ⟨0, 32896, 65535, 257⟩) = ⟨0, 128, 255, 1⟩ := by decide

theorem witness_LstateTransitions_idle : ∃ t, step (asked 0x00C 1) = .next t ∧ t.lstate = .busy ∧
    (asked 0x00C 1).pick = some (.access ⟨1, 4, 0x00C, .write 1⟩, []) := ⟨_, rfl, rfl, rfl⟩
theorem witness_LstateTransitions_lut : ∃ t, step (asked 0x200 0x008) = .next t ∧ t.lstate = .busy ∧
    (asked 0x200 0x008).pick = some (.access ⟨1, 4, 0x200, .write 0x008⟩, []) := ⟨_, rfl, rfl, rfl⟩
theorem witness_LstateTransitions_busy : step (still 2 .busy true) = .next (still 2 .busy true).sequencerCycle ∨
    (still 2 .busy true).sequencerCycle.lstate = .valid := by
  rcases (still 2 .busy true).sequencerCycle_cases with ⟨h, _⟩ | ⟨_, _, h, _⟩ | ⟨_, _, h, _⟩
  · exact absurd rfl h
  · left; simp [step, State.advance, State.pick, State.pickFrom, still, State.act, State.resumable] at h ⊢
    simp [h]
  · exact .inr h
theorem witness_LstateTransitions_valid : step (still 2 .valid true) = .next (still 2 .valid true) ∧
    (still 2 .valid true).pick = none := ⟨rfl, rfl⟩
theorem witness_SequencerFinishes : PxaInv (still 2 .busy true) ∧ (still 2 .busy true).lstate = .busy ∧
    (still 2 .busy true).inputs = [] := ⟨still_inv 2 .busy true (by decide), rfl, rfl⟩
theorem witness_WaitingCommandCompletes : PxaInv waiting ∧ waiting.inputs = [] ∧
    (waiting.ctx 1).cstate = .waitLut 5 .l2st Context.reset.operands := ⟨waitingIn_inv .busy (by decide), rfl, rfl⟩
theorem witness_BusyContextIsLeftAlone : ∃ t, PxaInv (waitingIn .valid) ∧
    ((waitingIn .valid).ctx 1).cstate = .waitLut 5 .l2st Context.reset.operands ∧ (waitingIn .valid).pick = none ∧
    step (waitingIn .valid) = .next t := ⟨_, waitingIn_inv .valid (by decide), rfl, rfl, rfl⟩
theorem witness_BusOrderIsKept : crowded.pick = some (.access ⟨7, 4, 0x100, .write 1⟩,
    [.access ⟨5, 4, 0x100, .write 1⟩, .access ⟨6, 4, 0x210, .write 1⟩]) := by decide +kernel
theorem witness_OtherContextsUntouched : ∃ t, (asked 0x200 1).takesNext ⟨1, 4, 0x200, .write 1⟩ [] ∧
    step (asked 0x200 1) = .next t ∧ pageOf (0x200 : BitVec 12) ≠ 0 + 1 :=
  ⟨_, by unfold State.takesNext; decide +kernel, rfl, by decide⟩
theorem witness_StepKeepsInvariant_busError : PxaInv misaligned ∧ misaligned.afterBusError = still 2 .idle true :=
  ⟨(still_inv 2 .idle true (by decide)).rec fun a b c d e f g => ⟨a, b, c, d, e, f, g⟩, rfl⟩
theorem witness_StepKeepsInvariant : ∃ s t, PxaInv s ∧ step s = .next t ∧ s ≠ t :=
  ⟨(still 2 .valid true).withInputs [.reset], _, ⟨(still_inv 2 .valid true (by decide)).1,
    (still_inv 2 .valid true (by decide)).2, (still_inv 2 .valid true (by decide)).3, (still_inv 2 .valid true (by decide)).4,
    (still_inv 2 .valid true (by decide)).5, (still_inv 2 .valid true (by decide)).6, (still_inv 2 .valid true (by decide)).7⟩,
    rfl, fun h => absurd (congrArg State.lstate h) (by decide)⟩

end Sys2Proof.Tests
end

/-! SUPPORT. The floating-point layer of Machine/Float.lean against the rationals: the fields of a pattern, the rounding of a
magnitude, and each operation as the exact one rounded once (00_scope.md R9). -/

namespace Sys2Proof.Machine

/-! ### The fields of a pattern -/

/-- The sign of a pattern, as decodeFloat reads it. -/
def signField (f : FloatFmt) (w : Nat) : Bool := w / 2 ^ (f.expBits + f.fracBits) % 2 == 1

/-- The exponent field of a pattern. -/
def expField (f : FloatFmt) (w : Nat) : Nat := w / 2 ^ f.fracBits % 2 ^ f.expBits

/-- The fraction field of a pattern. -/
def fracField (f : FloatFmt) (w : Nat) : Nat := w % 2 ^ f.fracBits

theorem decodeFloat_fields (f : FloatFmt) (w : Nat) : decodeFloat f w =
    if expField f w = 2 ^ f.expBits - 1 then (if fracField f w = 0 then .inf (signField f w) else .nan)
    else if expField f w = 0 then .fin (signField f w) (fracField f w)
    else .fin (signField f w) ((2 ^ f.fracBits + fracField f w) * 2 ^ (expField f w - 1)) := rfl

theorem fracField_lt (f : FloatFmt) (w : Nat) : fracField f w < 2 ^ f.fracBits := Nat.mod_lt _ (Nat.two_pow_pos _)

/-- A pattern is made of its three fields. -/
theorem fields_sum (f : FloatFmt) {w : Nat} (hw : w < 2 ^ (f.expBits + f.fracBits + 1)) :
    signBit f (signField f w) + (expField f w * 2 ^ f.fracBits + fracField f w) = w := by
  have hfrac : w / 2 ^ f.fracBits * 2 ^ f.fracBits + w % 2 ^ f.fracBits = w := Nat.div_add_mod' ..
  have hexp : w / 2 ^ f.fracBits / 2 ^ f.expBits * 2 ^ f.expBits + expField f w = w / 2 ^ f.fracBits := Nat.div_add_mod' ..
  rw [Nat.div_div_eq_div_mul, ← pow_add, Nat.add_comm f.fracBits] at hexp
  have htop : w / 2 ^ (f.expBits + f.fracBits) < 2 :=
    Nat.div_lt_of_lt_mul (by rwa [pow_succ] at hw)
  have hsign : signBit f (signField f w) = w / 2 ^ (f.expBits + f.fracBits) * 2 ^ (f.expBits + f.fracBits) := by
    rcases Nat.le_one_iff_eq_zero_or_eq_one.1 (Nat.le_of_lt_succ htop) with h | h <;> simp [signBit, signField, h]
  calc signBit f (signField f w) + (expField f w * 2 ^ f.fracBits + fracField f w)
      = (w / 2 ^ (f.expBits + f.fracBits) * 2 ^ f.expBits + expField f w) * 2 ^ f.fracBits + fracField f w := by
        rw [hsign, pow_add]; ring
    _ = w := by rw [hexp]; exact hfrac

/-- A subnormal magnitude is its own pattern. -/
theorem magBits_subnormal (f : FloatFmt) {m : Nat} (h : m < 2 ^ f.fracBits) : magBits f m = m := by
  have hsh : m.log2 - f.fracBits = 0 := by
    rcases Nat.eq_zero_or_pos m with rfl | hm
    · simp
    · have := (Nat.log2_lt hm.ne').2 h
      omega
  simp [magBits, hsh]

/-- The pattern of a normal magnitude: the leading bit goes into the exponent field. -/
theorem magBits_normal (f : FloatFmt) {fr : Nat} (e : Nat) (h : fr < 2 ^ f.fracBits) :
    magBits f ((2 ^ f.fracBits + fr) * 2 ^ e) = (e + 1) * 2 ^ f.fracBits + fr := by
  have hlog : ((2 ^ f.fracBits + fr) * 2 ^ e).log2 = f.fracBits + e := by
    have hpos : (2 ^ f.fracBits + fr) * 2 ^ e ≠ 0 := by positivity
    refine (Nat.log2_eq_iff hpos).2 ⟨?_, ?_⟩
    · rw [pow_add]
      exact Nat.mul_le_mul_right _ (Nat.le_add_right ..)
    · rw [Nat.add_right_comm, pow_add]
      exact Nat.mul_lt_mul_of_pos_right (by rw [pow_succ]; omega) (Nat.two_pow_pos e)
  simp only [magBits, hlog, Nat.add_sub_cancel_left, Nat.mul_div_cancel _ (Nat.two_pow_pos e)]
  ring

theorem decodeFloat_eq_nan_iff (f : FloatFmt) (w : Nat) :
    decodeFloat f w = .nan ↔ expField f w = 2 ^ f.expBits - 1 ∧ fracField f w ≠ 0 := by
  rw [decodeFloat_fields]
  split_ifs with hmax hfrac hsub
  · simp [hfrac]
  · simp [hmax, hfrac]
  · simp [hmax]
  · simp [hmax]

theorem decodeFloat_inf (f : FloatFmt) {w : Nat} (hmax : expField f w = 2 ^ f.expBits - 1) (hfrac : fracField f w = 0) :
    decodeFloat f w = .inf (signField f w) := by
  rw [decodeFloat_fields, if_pos hmax, if_pos hfrac]

/-- The magnitude of a finite pattern. -/
theorem decodeFloat_fin (f : FloatFmt) {w : Nat} (hmax : expField f w ≠ 2 ^ f.expBits - 1) :
    decodeFloat f w = .fin (signField f w) (if expField f w = 0 then fracField f w
      else (2 ^ f.fracBits + fracField f w) * 2 ^ (expField f w - 1)) := by
  rw [decodeFloat_fields, if_neg hmax]
  split_ifs <;> rfl

/-- The value of a finite pattern; `bias` is the exponent bias, and fraction width, bias and unit fit together. -/
theorem decodeFloat_value (f : FloatFmt) {w bias : Nat} (hbias : f.unitExp + 1 = f.fracBits + bias)
    (hmax : expField f w ≠ 2 ^ f.expBits - 1) :
    ∃ m, decodeFloat f w = .fin (signField f w) m ∧ finValue f false m =
      if expField f w = 0 then (fracField f w : ℚ) / 2 ^ f.unitExp
      else (1 + (fracField f w : ℚ) / 2 ^ f.fracBits) * (2 : ℚ) ^ ((expField f w : ℤ) - bias) := by
  refine ⟨_, decodeFloat_fin f hmax, ?_⟩
  split <;> rename_i hexp
  · simp [finValue]
  · obtain ⟨e, he⟩ := Nat.exists_eq_succ_of_ne_zero hexp
    have hz : ((expField f w : ℤ) - bias) = (f.fracBits : ℤ) + e - f.unitExp := by omega
    rw [hz, zpow_sub₀ two_ne_zero, zpow_add₀ two_ne_zero, he]
    simp only [finValue, zpow_natCast]
    push_cast
    field_simp

/-- Every pattern but a NaN is the pattern of its value. -/
theorem encodeFloat_decodeFloat (f : FloatFmt) {w : Nat} (hw : w < 2 ^ (f.expBits + f.fracBits + 1))
    (hnan : decodeFloat f w ≠ .nan) : encodeFloat f (decodeFloat f w) = w := by
  have hsum := fields_sum f hw
  by_cases hmax : expField f w = 2 ^ f.expBits - 1
  · have hfrac : fracField f w = 0 := by
      by_contra h
      exact hnan ((decodeFloat_eq_nan_iff f w).2 ⟨hmax, h⟩)
    rw [decodeFloat_inf f hmax hfrac, encodeFloat, ← hmax]
    rwa [hfrac, Nat.add_zero] at hsum
  · rw [decodeFloat_fin f hmax, encodeFloat]
    split <;> rename_i hexp
    · rw [magBits_subnormal f (fracField_lt f w)]
      simpa [hexp] using hsum
    · rwa [magBits_normal f _ (fracField_lt f w), Nat.sub_add_cancel (Nat.pos_of_ne_zero hexp)]

/-! ### The fields as bits of a word -/

theorem extractLsb'_toNat_expField {n : Nat} (f : FloatFmt) (w : BitVec n) :
    (w.extractLsb' f.fracBits f.expBits).toNat = expField f w.toNat := by
  rw [BitVec.extractLsb'_toNat, Nat.shiftRight_eq_div_pow, expField]

theorem extractLsb'_toNat_fracField {n : Nat} (f : FloatFmt) (w : BitVec n) :
    (w.extractLsb' 0 f.fracBits).toNat = fracField f w.toNat := by
  rw [BitVec.extractLsb'_toNat, Nat.shiftRight_zero, fracField]

theorem getLsbD_signField {n : Nat} (f : FloatFmt) (w : BitVec n) :
    w.getLsbD (f.expBits + f.fracBits) = signField f w.toNat := by
  rw [BitVec.getLsbD, Nat.testBit_eq_decide_div_mod_eq, signField]
  rfl

/-- What IEEE 754 says of a word, in the words' own bits: the NaNs, the infinities and the finite values. -/
theorem decodeFloat_word {n : Nat} (f : FloatFmt) (bias : Nat) (hbias : f.unitExp + 1 = f.fracBits + bias) (w : BitVec n) :
    (decodeFloat f w.toNat = .nan ↔
      w.extractLsb' f.fracBits f.expBits = BitVec.allOnes f.expBits ∧ w.extractLsb' 0 f.fracBits ≠ 0) ∧
    (w.extractLsb' f.fracBits f.expBits = BitVec.allOnes f.expBits → w.extractLsb' 0 f.fracBits = 0 →
      decodeFloat f w.toNat = .inf (w.getLsbD (f.expBits + f.fracBits))) ∧
    (w.extractLsb' f.fracBits f.expBits ≠ BitVec.allOnes f.expBits →
      ∃ m, decodeFloat f w.toNat = .fin (w.getLsbD (f.expBits + f.fracBits)) m ∧ finValue f false m =
        if w.extractLsb' f.fracBits f.expBits = 0 then ((w.extractLsb' 0 f.fracBits).toNat : ℚ) / 2 ^ f.unitExp
        else (1 + ((w.extractLsb' 0 f.fracBits).toNat : ℚ) / 2 ^ f.fracBits) *
          (2 : ℚ) ^ (((w.extractLsb' f.fracBits f.expBits).toNat : ℤ) - bias)) := by
  have hmax : w.extractLsb' f.fracBits f.expBits = BitVec.allOnes f.expBits ↔ expField f w.toNat = 2 ^ f.expBits - 1 := by
    rw [← BitVec.toNat_inj, extractLsb'_toNat_expField, BitVec.toNat_allOnes]
  have hexp : w.extractLsb' f.fracBits f.expBits = 0 ↔ expField f w.toNat = 0 := by
    rw [← BitVec.toNat_inj, extractLsb'_toNat_expField, BitVec.ofNat_eq_ofNat, BitVec.toNat_ofNat, Nat.zero_mod]
  have hfrac : w.extractLsb' 0 f.fracBits = 0 ↔ fracField f w.toNat = 0 := by
    rw [← BitVec.toNat_inj, extractLsb'_toNat_fracField, BitVec.ofNat_eq_ofNat, BitVec.toNat_ofNat, Nat.zero_mod]
  simp only [ne_eq, hmax, hexp, hfrac, extractLsb'_toNat_expField, extractLsb'_toNat_fracField, getLsbD_signField]
  exact ⟨decodeFloat_eq_nan_iff f _, decodeFloat_inf f, decodeFloat_value f hbias⟩

theorem canonBits32_nan : canonBits32 .nan = 0x7FC00000 := by decide

/-- 00_scope.md R9: reading a word as a binary32 value and writing it back gives the word, unless it is a NaN. -/
theorem canonBits32_f32 {w : Word} (hnan : f32 w ≠ .nan) : canonBits32 (f32 w) = w := by
  rw [canonBits32, f32, encodeFloat_decodeFloat b32 w.isLt hnan, BitVec.ofNat_toNat, BitVec.setWidth_eq]

/-- Settles O31, by the three fields of a pattern: `decodeFloat_word` at both formats, `encodeFloat_decodeFloat` for the way
back. -/
theorem floatBitsRoundTrip : Obligations.FloatBitsRoundTrip := by
  unfold Obligations.FloatBitsRoundTrip
  refine ⟨fun w => ?_, fun d => decodeFloat_word b64 1023 rfl d⟩
  exact ⟨canonBits32_f32, fun h => by rw [h, canonBits32_nan], decodeFloat_word b32 127 rfl w⟩

/-! ### Rounding a magnitude (00_scope.md R9) -/

/-- The exponent of the grid that a magnitude is rounded to. -/
def roundShift (f : FloatFmt) (num den : Nat) : Nat := (num / den).log2 - f.fracBits

/-- num/den rounded to the nearest integer, ties to the even one. -/
def roundNat (num den : Nat) : Nat :=
  if den < 2 * (num % den) ∨ (2 * (num % den) = den ∧ num / den % 2 = 1) then num / den + 1 else num / den

theorem roundMag_eq (f : FloatFmt) (num den : Nat) :
    roundMag f num den = roundNat num (den * 2 ^ roundShift f num den) * 2 ^ roundShift f num den := rfl

theorem roundNat_eq_or (num den : Nat) : roundNat num den = num / den ∨ roundNat num den = num / den + 1 := by
  unfold roundNat
  split
  · exact .inr rfl
  · exact .inl rfl

/-- The rounded quotient is at most half a unit off, and even where it is exactly half a unit off. -/
theorem roundNat_error (num : Nat) {den : Nat} (hden : 0 < den) :
    2 * |(roundNat num den * den : Int) - num| ≤ den ∧
      (2 * |(roundNat num den * den : Int) - num| = den → roundNat num den % 2 = 0) := by
  have hdiv : ((num / den : Nat) * den + (num % den : Nat) : Int) = num := by exact_mod_cast Nat.div_add_mod' num den
  have hlt : num % den < den := Nat.mod_lt _ hden
  unfold roundNat
  generalize num / den = q at *
  generalize num % den = r at *
  split <;> rename_i h
  · rw [show (((q + 1 : Nat) : Int) * den - num) = den - r by push_cast; linarith, abs_of_nonneg (by omega)]
    omega
  · rw [show ((q : Int) * den - num) = -r by linarith, abs_neg, abs_of_nonneg (by omega)]
    omega

/-- Two different integers are a whole unit apart. -/
theorem unit_le_sum_of_errors (num den : Nat) {m k : Nat} (h : m ≠ k) :
    (den : Int) ≤ |(m * den : Int) - num| + |(k * den : Int) - num| := by
  have hmk : 1 ≤ |(m : Int) - k| := Int.one_le_abs (by omega)
  calc (den : Int) ≤ |(m : Int) - k| * den := le_mul_of_one_le_left (by positivity) hmk
    _ = |((m * den : Int) - num) - ((k * den : Int) - num)| := by
      rw [sub_sub_sub_cancel_right, ← sub_mul, abs_mul, Nat.abs_cast]
    _ ≤ _ := abs_sub _ _

/-- No integer is nearer than the rounded quotient, and where another is as near the rounded quotient is even. -/
theorem roundNat_nearest (num : Nat) {den : Nat} (hden : 0 < den) (m : Nat) :
    |(roundNat num den * den : Int) - num| ≤ |(m * den : Int) - num| ∧
      (m ≠ roundNat num den → |(m * den : Int) - num| = |(roundNat num den * den : Int) - num| →
        roundNat num den % 2 = 0) := by
  obtain ⟨hle, heven⟩ := roundNat_error num hden
  by_cases hm : m = roundNat num den
  · exact ⟨by rw [hm], fun h => absurd hm h⟩
  · have hunit := unit_le_sum_of_errors num den hm
    exact ⟨by linarith, fun _ htie => heven (by linarith)⟩

theorem lt_two_pow_roundShift (f : FloatFmt) (num den : Nat) :
    num / den < 2 ^ (f.fracBits + 1) * 2 ^ roundShift f num den := by
  rw [← pow_add]
  exact Nat.lt_log2_self.trans_le (Nat.pow_le_pow_right two_pos (by unfold roundShift; omega))

/-- The rounded significand has at most fracBits + 1 bits, or it is the next power of two. -/
theorem roundNat_le (f : FloatFmt) (num den : Nat) :
    roundNat num (den * 2 ^ roundShift f num den) ≤ 2 ^ (f.fracBits + 1) := by
  have hlt : num / (den * 2 ^ roundShift f num den) < 2 ^ (f.fracBits + 1) := by
    rw [← Nat.div_div_eq_div_mul]
    exact Nat.div_lt_of_lt_mul (Nat.mul_comm .. ▸ lt_two_pow_roundShift f num den)
  rcases roundNat_eq_or num (den * 2 ^ roundShift f num den) with h | h <;> omega

theorem representable_roundMag (f : FloatFmt) (num den : Nat) : Representable f (roundMag f num den) := by
  rw [roundMag_eq]
  rcases (roundNat_le f num den).lt_or_eq with hlt | heq
  · exact ⟨_, _, hlt, rfl⟩
  · refine ⟨2 ^ f.fracBits, roundShift f num den + 1, Nat.pow_lt_pow_right one_lt_two (Nat.lt_succ_self _), ?_⟩
    rw [heq]
    ring

/-- A representable magnitude is a point of the grid, or it is below a power of two that is a point of the grid and at most
num/den: a finer grid ends where num/den is not yet reached. -/
theorem Representable.on_grid_or_below {f : FloatFmt} {m : Nat} (hm : Representable f m) (num : Nat) {den : Nat}
    (hden : 0 < den) : (∃ k, m = k * 2 ^ roundShift f num den) ∨
      (m < 2 ^ f.fracBits * 2 ^ roundShift f num den ∧ 2 ^ f.fracBits * 2 ^ roundShift f num den * den ≤ num) := by
  obtain ⟨n, s, hn, rfl⟩ := hm
  rcases Nat.lt_or_ge s (roundShift f num den) with hs | hs
  · right
    have hlog : (num / den).log2 = f.fracBits + roundShift f num den := by unfold roundShift at *; omega
    have hquot : num / den ≠ 0 := by
      intro h0
      rw [h0, Nat.log2_zero] at hlog
      omega
    constructor
    · calc n * 2 ^ s < 2 ^ (f.fracBits + 1) * 2 ^ s := Nat.mul_lt_mul_of_pos_right hn (Nat.two_pow_pos s)
        _ = 2 ^ f.fracBits * 2 ^ (s + 1) := by ring
        _ ≤ _ := Nat.mul_le_mul_left _ (Nat.pow_le_pow_right two_pos hs)
    · rw [← pow_add, ← hlog]
      exact (Nat.le_div_iff_mul_le hden).1 (Nat.log2_self_le hquot)
  · left
    exact ⟨n * 2 ^ (s - roundShift f num den), by rw [Nat.mul_assoc, ← pow_add, Nat.sub_add_cancel hs]⟩

/-- Rounding to nearest, ties to even, among all magnitudes of the format. -/
theorem roundMag_nearest (f : FloatFmt) (num : Nat) {den : Nat} (hden : 0 < den) {m : Nat} (hm : Representable f m) :
    |(roundMag f num den * den : Int) - num| ≤ |(m * den : Int) - num| ∧
      (m ≠ roundMag f num den → |(m * den : Int) - num| = |(roundMag f num den * den : Int) - num| →
        roundNat num (den * 2 ^ roundShift f num den) % 2 = 0) := by
  have hgrid (k : Nat) : ((k * 2 ^ roundShift f num den : Nat) : Int) * den = k * (den * 2 ^ roundShift f num den : Nat) := by
    push_cast
    ring
  have hnear := roundNat_nearest num (den := den * 2 ^ roundShift f num den) (by positivity)
  rw [roundMag_eq]
  rcases hm.on_grid_or_below num hden with ⟨k, rfl⟩ | ⟨hlt, hle⟩
  · rw [hgrid, hgrid]
    exact ⟨(hnear k).1, fun hne => (hnear k).2 fun h => hne (by rw [h])⟩
  · have hpow := (hnear (2 ^ f.fracBits)).1
    rw [← hgrid, ← hgrid] at hpow
    have hcloser : |((2 ^ f.fracBits * 2 ^ roundShift f num den : Nat) : Int) * den - num| < |(m : Int) * den - num| := by
      have hlt' : m * den < 2 ^ f.fracBits * 2 ^ roundShift f num den * den := Nat.mul_lt_mul_of_pos_right hlt hden
      zify at hlt' hle
      rw [abs_of_nonpos (by push_cast; linarith), abs_of_nonpos (by linarith)]
      push_cast
      linarith
    exact ⟨by linarith, fun _ htie => absurd htie (by linarith)⟩

theorem roundMag_div_two_pow (f : FloatFmt) (num den : Nat) :
    roundMag f num den / 2 ^ roundShift f num den = roundNat num (den * 2 ^ roundShift f num den) := by
  rw [roundMag_eq, Nat.mul_div_cancel _ (Nat.two_pow_pos _)]

theorem roundReal_of_overflow {f : FloatFmt} {num den : Nat} (neg : Bool) (h : overflowMag f ≤ roundMag f num den) :
    roundReal f neg num den = .inf neg := if_pos h

theorem roundReal_of_lt {f : FloatFmt} {num den : Nat} (neg : Bool) (h : roundMag f num den < overflowMag f) :
    roundReal f neg num den = .fin neg (roundMag f num den) := if_neg (Nat.not_le.2 h)

theorem overflowMag_b32 : overflowMag b32 = 2 ^ (128 + 149) := congrArg (2 ^ ·) (by decide : 2 ^ 8 + 23 - 2 = 128 + 149)
theorem overflowMag_b64 : overflowMag b64 = 2 ^ (1024 + 1074) :=
  congrArg (2 ^ ·) (by decide : 2 ^ 11 + 52 - 2 = 1024 + 1074)

@[simp] theorem roundMag_zero (f : FloatFmt) (den : Nat) : roundMag f 0 den = 0 := by simp [roundMag]

@[simp] theorem roundReal_zero (f : FloatFmt) (neg : Bool) (den : Nat) : roundReal f neg 0 den = .fin neg 0 := by
  rw [roundReal_of_lt neg (by rw [roundMag_zero]; exact Nat.two_pow_pos _), roundMag_zero]

/-! ### The value of a sign and a magnitude -/

/-- -1 or 1. -/
def signValue (neg : Bool) : ℚ := if neg then -1 else 1

@[simp] theorem signValue_false : signValue false = 1 := rfl
@[simp] theorem signValue_true : signValue true = -1 := rfl
theorem signValue_not (n : Bool) : signValue (!n) = -signValue n := by cases n <;> simp
theorem signValue_bne (n n' : Bool) : signValue (n != n') = signValue n * signValue n' := by cases n <;> cases n' <;> simp
theorem signValue_mul_self (n : Bool) : signValue n * signValue n = 1 := by cases n <;> simp
theorem signValue_ne_zero (n : Bool) : signValue n ≠ 0 := by cases n <;> simp

theorem finValue_eq (f : FloatFmt) (n : Bool) (m : Nat) : finValue f n m = signValue n * m / 2 ^ f.unitExp := rfl

theorem finValue_not (f : FloatFmt) (n : Bool) (m : Nat) : finValue f (!n) m = -finValue f n m := by
  rw [finValue_eq, finValue_eq, signValue_not]
  ring

theorem finValue_eq_zero_iff (f : FloatFmt) (n : Bool) (m : Nat) : finValue f n m = 0 ↔ m = 0 := by
  simp [finValue_eq, signValue_ne_zero]

theorem finValue_neg_iff (f : FloatFmt) (n : Bool) (m : Nat) : finValue f n m < 0 ↔ n = true ∧ m ≠ 0 := by
  rw [finValue_eq, div_lt_iff₀ (by positivity), zero_mul]
  cases n
  · simp
  · simp [Nat.pos_iff_ne_zero]

theorem one_lt_finValue_iff (f : FloatFmt) (n : Bool) (m : Nat) : 1 < finValue f n m ↔ n = false ∧ 2 ^ f.unitExp < m := by
  rw [finValue_eq, lt_div_iff₀ (by positivity), one_mul]
  cases n
  · simp only [signValue_false, one_mul, true_and]
    exact_mod_cast Iff.rfl
  · have hneg : -(m : ℚ) < 2 ^ f.unitExp := (neg_nonpos.2 m.cast_nonneg).trans_lt (by positivity)
    simpa using hneg.le

/-! ### Every operation is the exact one, rounded once -/

/-- roundReal rounds the rational of its sign and magnitude; the sign of a zero is asked for only where there is one. -/
theorem roundsTo_roundReal {f : FloatFmt} {x : ℚ} {z neg : Bool} {num den : Nat} (hden : 0 < den)
    (hx : x * 2 ^ f.unitExp = signValue neg * (num / den)) (hz : num = 0 → z = neg) :
    RoundsTo f x z (roundReal f neg num den) := by
  have hunit : (0 : ℚ) < 2 ^ f.unitExp := by positivity
  have hden' : (0 : ℚ) < den := by exact_mod_cast hden
  have hquot : (0 : ℚ) ≤ num / den := by positivity
  refine ⟨num, den, hden, ?_, ?_⟩
  · rw [← abs_of_pos hunit, ← abs_mul, hx, abs_mul, abs_of_nonneg hquot]
    cases neg <;> simp
  · congr 1
    rcases Nat.eq_zero_or_pos num with rfl | hnum
    · have hx0 : x = 0 := by simpa [hunit.ne'] using hx
      rw [if_pos hx0, hz rfl]
    · have hpos : (0 : ℚ) < num / den := by positivity
      cases neg
      · have hxpos : 0 < x := pos_of_mul_pos_left (by simpa [hx] using hpos) hunit.le
        simp [hxpos.ne', hxpos.le]
      · have hxneg : x < 0 := neg_of_mul_neg_left (by simpa [hx] using hpos) hunit.le
        simp [hxneg.ne, hxneg]

theorem fmul_roundsTo (f : FloatFmt) (n : Bool) (m : Nat) (n' : Bool) (m' : Nat) :
    RoundsTo f (finValue f n m * finValue f n' m') (n != n') (fmul f (.fin n m) (.fin n' m')) := by
  refine roundsTo_roundReal (Nat.two_pow_pos _) ?_ fun _ => rfl
  rw [finValue_eq, finValue_eq, signValue_bne]
  push_cast
  field_simp

theorem fdiv_roundsTo (f : FloatFmt) (n : Bool) (m : Nat) (n' : Bool) {m' : Nat} (hm' : m' ≠ 0) :
    RoundsTo f (finValue f n m / finValue f n' m') (n != n') (fdiv f (.fin n m) (.fin n' m')) := by
  rw [fdiv, if_neg hm']
  refine roundsTo_roundReal (Nat.pos_of_ne_zero hm') ?_ fun _ => rfl
  rw [finValue_eq, finValue_eq, signValue_bne]
  have hsign := signValue_ne_zero n'
  have hsq := signValue_mul_self n'
  push_cast
  field_simp
  linear_combination (-(signValue n * m)) * hsq

theorem fconvert_roundsTo (f g : FloatFmt) (n : Bool) (m : Nat) :
    RoundsTo g (finValue f n m) n (fconvert f g (.fin n m)) := by
  refine roundsTo_roundReal (Nat.two_pow_pos _) ?_ fun _ => rfl
  rw [finValue_eq]
  push_cast
  ring

/-- The sum of two finite values, in units. -/
theorem finValue_add_units (f : FloatFmt) (n : Bool) (m : Nat) (n' : Bool) (m' : Nat) :
    (finValue f n m + finValue f n' m') * 2 ^ f.unitExp = signValue n * m + signValue n' * m' := by
  rw [finValue_eq, finValue_eq]
  field_simp

theorem fadd_roundsTo (f : FloatFmt) (n : Bool) (m : Nat) (n' : Bool) (m' : Nat) :
    RoundsTo f (finValue f n m + finValue f n' m') (n && n') (fadd f (.fin n m) (.fin n' m')) := by
  have hunits := finValue_add_units f n m n' m'
  rw [fadd]
  split_ifs with hsign heq hlt
  · subst hsign
    refine roundsTo_roundReal one_pos ?_ fun _ => Bool.and_self n
    rw [hunits]
    push_cast
    ring
  all_goals
    obtain rfl : n' = !n := Bool.eq_not.2 (Ne.symm hsign)
    rw [signValue_not] at hunits
  · rw [← roundReal_zero f false 1]
    refine roundsTo_roundReal one_pos ?_ fun _ => by simp
    rw [hunits, heq]
    simp
  · refine roundsTo_roundReal one_pos ?_ fun h => by omega
    rw [hunits, Nat.cast_sub hlt.le]
    ring
  · refine roundsTo_roundReal one_pos ?_ fun h => by omega
    rw [hunits, signValue_not, Nat.cast_sub (by omega)]
    ring

theorem fsub_roundsTo (f : FloatFmt) (n : Bool) (m : Nat) (n' : Bool) (m' : Nat) :
    RoundsTo f (finValue f n m - finValue f n' m') (n && !n') (fsub f (.fin n m) (.fin n' m')) := by
  rw [sub_eq_add_neg, ← finValue_not]
  exact fadd_roundsTo f n m (!n') m'

/-! ### The tests against 0 and 1 -/

theorem isZero_iff (f : FloatFmt) (a : FVal) : isZero a = true ↔ ∃ n m, a = .fin n m ∧ finValue f n m = 0 := by
  cases a <;> simp [isZero, finValue_eq_zero_iff]

theorem belowZero_iff (f : FloatFmt) (a : FVal) :
    belowZero a = true ↔ a = .inf true ∨ ∃ n m, a = .fin n m ∧ finValue f n m < 0 := by
  cases a with
  | nan => simp [belowZero]
  | inf n => cases n <;> simp [belowZero]
  | fin n m => cases n <;> simp [belowZero, finValue_neg_iff]

theorem aboveOne_iff (f : FloatFmt) (a : FVal) :
    aboveOne f a = true ↔ a = .inf false ∨ ∃ n m, a = .fin n m ∧ 1 < finValue f n m := by
  cases a with
  | nan => simp [aboveOne]
  | inf n => cases n <;> simp [aboveOne]
  | fin n m => cases n <;> simp [aboveOne, one_lt_finValue_iff]

theorem finValue_one (f : FloatFmt) : finValue f false (2 ^ f.unitExp) = 1 := by
  rw [finValue_eq]
  simp

/-- A NaN operand on the right gives a NaN, whatever stands on the left. -/
theorem nan_right (f : FloatFmt) (a : FVal) :
    fmul f a .nan = .nan ∧ fadd f a .nan = .nan ∧ fsub f a .nan = .nan ∧ fdiv f a .nan = .nan := by
  cases a <;> exact ⟨rfl, rfl, rfl, rfl⟩

/-- The arithmetic of every format of this shape, not only of the two that are used. -/
theorem arithmeticIsIeee (f : FloatFmt) : ArithmeticIsIeee f where
  one := ⟨_, rfl, finValue_one f⟩
  mul := fmul_roundsTo f
  add := fadd_roundsTo f
  sub := fsub_roundsTo f
  div n m n' _ hm' := fdiv_roundsTo f n m n' hm'
  nanLeft _ := ⟨rfl, rfl, rfl, rfl⟩
  nanRight := nan_right f
  mulInf _ _ := rfl
  mulInfFin n n' _ := ⟨rfl, by rw [bne_comm]; rfl⟩
  addInf n := by cases n <;> exact ⟨rfl, rfl⟩
  addInfFin _ _ _ := ⟨rfl, rfl⟩
  subInf n := by cases n <;> exact ⟨rfl, rfl⟩
  subInfFin _ _ _ := ⟨rfl, rfl⟩
  divInf _ _ := rfl
  divInfFin n n' _ := ⟨rfl, by rw [bne_comm]; rfl⟩
  divZero _ _ _ := rfl
  isZero := isZero_iff f
  belowZero := belowZero_iff f
  aboveOne := aboveOne_iff f

/-- Settles O30: `representable_roundMag` and `roundMag_nearest` for the rounding, `arithmeticIsIeee` for the operations,
`fconvert_roundsTo` for the conversions. -/
theorem roundingIsToNearestEven : Obligations.RoundingIsToNearestEven := by
  unfold Obligations.RoundingIsToNearestEven
  refine ⟨fun f _ num den hden => ⟨representable_roundMag f num den, fun m hm => (roundMag_nearest f num hden hm).1,
    fun m hm hne htie => ?_⟩, fun neg num den _ => ?_, fun f _ => arithmeticIsIeee f,
    fun f _ g _ => ⟨rfl, fun n => ⟨rfl, fun m => fconvert_roundsTo f g n m⟩⟩⟩
  · rw [← roundShift, roundMag_div_two_pow]
    exact (roundMag_nearest f num hden hm).2 hne htie
  · rw [← overflowMag_b32, ← overflowMag_b64]
    exact ⟨roundReal_of_overflow neg, roundReal_of_lt neg, roundReal_of_overflow neg, roundReal_of_lt neg⟩

end Sys2Proof.Machine

/-! SUPPORT. The register window as 10_state.md lays it out (R31-R43): what an access to the global page, to a page of a
present context and to an absent page reads and writes. -/

namespace Sys2Proof.Machine

/-! ### Aligned accesses of 32 bits -/

/-- An aligned read only adds its answer (20_memory.md R75). -/
theorem performAccess_read (s : State) (m : Nat) {off : BitVec 12} (hal : off.toNat % 4 = 0) :
    performAccess ⟨m, 4, off, .read⟩ s = .next (s.respond (.readData m (s.readWindow off))) := by
  simp [performAccess, Access.admitted, hal]

/-- An aligned write to an offset that is no CMD register is performed and answered at once. -/
theorem performAccess_write (s : State) (m : Nat) (v : Word) {off : BitVec 12} (hal : off.toNat % 4 = 0)
    (hcmd : s.cmdContext off = none) :
    performAccess ⟨m, 4, off, .write v⟩ s = .next ((s.writeWindow off v).respond (.writeDone m)) := by
  simp [performAccess, Access.admitted, hal, hcmd]

/-! ### The global page -/

theorem State.readWindow_global (s : State) {off : BitVec 12} (hp : pageOf off = 0) :
    s.readWindow off = s.readGlobal (regOf off) := by
  simp [State.readWindow, hp]

theorem State.writeWindow_global (s : State) (v : Word) {off : BitVec 12} (hp : pageOf off = 0) :
    s.writeWindow off v = s.writeGlobal (regOf off) v := by
  simp [State.writeWindow, hp]

theorem State.cmdContext_global (s : State) {off : BitVec 12} (hp : pageOf off = 0) : s.cmdContext off = none := by
  simp [State.cmdContext, hp]

theorem State.readGlobal_reserved (s : State) {reg : Nat} (h : 0x10 ≤ reg) : s.readGlobal reg = 0 := by
  unfold State.readGlobal
  split
  any_goals omega
  rfl

/-- GCTRL is the one register of the global page that a write reaches (10_state.md R31-R35). -/
theorem State.writeGlobal_ignored (s : State) (v : Word) {reg : Nat} (h : reg ≠ 0x0C) : s.writeGlobal reg v = s := by
  simp [State.writeGlobal, h]

theorem State.startSequencer_of_idle (s : State) (h : s.lstate = .idle) :
    s.startSequencer = { s with lstate := .busy, seqCycle := 0 } := by
  simp [State.startSequencer, h]

theorem State.startSequencer_of_ne_idle (s : State) (h : s.lstate ≠ .idle) : s.startSequencer = s := by
  cases hl : s.lstate <;> simp_all [State.startSequencer]

/-- A write to GCTRL starts the sequencer if bit 0 is set and LSTATE is IDLE (10_state.md R34). -/
theorem State.writeGlobal_gctrl (s : State) (v : Word) : s.writeGlobal 0x0C v =
    if v.getLsbD 0 = true ∧ s.lstate = .idle then { s with lstate := .busy, seqCycle := 0 } else s := by
  by_cases hb : v.getLsbD 0 = true
  · by_cases hl : s.lstate = .idle
    · rw [State.writeGlobal, if_pos ⟨rfl, hb⟩, if_pos ⟨hb, hl⟩, s.startSequencer_of_idle hl]
    · rw [State.writeGlobal, if_pos ⟨rfl, hb⟩, if_neg (fun h => hl h.2), s.startSequencer_of_ne_idle hl]
  · rw [State.writeGlobal, if_neg (fun h => hb h.2), if_neg (fun h => hb h.1)]

/-- A write to a register of the global page other than GCTRL is answered and changes nothing. -/
theorem performAccess_write_global (s : State) (m : Nat) (v : Word) {off : BitVec 12} (hal : off.toNat % 4 = 0)
    (hp : pageOf off = 0) (hr : regOf off ≠ 0x0C) :
    performAccess ⟨m, 4, off, .write v⟩ s = .next (s.respond (.writeDone m)) := by
  rw [performAccess_write s m v hal (s.cmdContext_global hp), s.writeWindow_global v hp, s.writeGlobal_ignored v hr]

/-! ### The page of an absent context -/

theorem State.readWindow_absent (s : State) {off : BitVec 12} {c : Nat} (hp : pageOf off = c + 1)
    (hc : s.hasCtx c = false) : s.readWindow off = 0 := by
  simp [State.readWindow, hp, hc]

theorem State.writeWindow_absent (s : State) (v : Word) {off : BitVec 12} {c : Nat} (hp : pageOf off = c + 1)
    (hc : s.hasCtx c = false) : s.writeWindow off v = s := by
  simp [State.writeWindow, hp, hc]

theorem State.cmdContext_absent (s : State) {off : BitVec 12} {c : Nat} (hp : pageOf off = c + 1)
    (hc : s.hasCtx c = false) : s.cmdContext off = none := by
  simp [State.cmdContext, hp, hc]

/-! ### The page of a present context -/

theorem State.readWindow_present (s : State) {off : BitVec 12} {c : Nat} (hp : pageOf off = c + 1)
    (hc : s.hasCtx c = true) : s.readWindow off = (s.ctx c).readReg (regOf off) := by
  simp [State.readWindow, hp, hc]

theorem State.writeWindow_present (s : State) (v : Word) {off : BitVec 12} {c : Nat} (hp : pageOf off = c + 1)
    (hc : s.hasCtx c = true) : s.writeWindow off v = s.setCtx c ((s.ctx c).writeReg (regOf off) v) := by
  simp [State.writeWindow, hp, hc]

theorem State.cmdContext_present (s : State) {off : BitVec 12} {c : Nat} (hp : pageOf off = c + 1)
    (hr : regOf off ≠ 0) : s.cmdContext off = none := by
  simp [State.cmdContext, hp, hr]

/-- Writing back a context as it stands changes nothing. -/
@[simp] theorem State.setCtx_ctx (s : State) (c : Nat) : s.setCtx c (s.ctx c) = s := by
  have hset : s.contexts.set c (s.ctx c) = s.contexts := by
    by_cases hc : c < s.contexts.length
    · simp [State.ctx, hc]
    · exact List.set_eq_of_length_le (by omega)
  simp [State.setCtx, hset]

/-- The registers of a context's page that 10_state.md R36 leaves reserved. -/
def ReservedReg (reg : Nat) : Prop := reg = 0x0C ∨ reg = 0x38 ∨ reg = 0x3C ∨ 0x50 ≤ reg

theorem Context.readReg_reserved (x : Context) {reg : Nat} (h : ReservedReg reg) : x.readReg reg = 0 := by
  unfold ReservedReg at h
  unfold Context.readReg
  split
  any_goals omega
  rfl

theorem Context.writeReg_reserved (x : Context) (v : Word) {reg : Nat} (h : ReservedReg reg) : x.writeReg reg v = x := by
  unfold ReservedReg at h
  unfold Context.writeReg
  split
  any_goals omega
  rfl

theorem Context.writeCstatus_eq (x : Context) (v : Word) :
    x.writeCstatus v = { x with errIll := x.errIll && !v.getLsbD 0 } := by
  unfold Context.writeCstatus
  split
  case isTrue hb => rw [hb, Bool.not_true, Bool.and_false]
  case isFalse hb => rw [Bool.eq_false_of_not_eq_true hb, Bool.not_false, Bool.and_true]

/-! ### Lane j of a register group -/

theorem Context.readReg_a (x : Context) (j : LaneIx) : x.readReg (0x10 + 4 * j.val) = Lanes.get x.a j := by
  match j with
  | 0 | 1 | 2 | 3 => rfl

theorem Context.readReg_b (x : Context) (j : LaneIx) : x.readReg (0x20 + 4 * j.val) = Lanes.get x.b j := by
  match j with
  | 0 | 1 | 2 | 3 => rfl

theorem Context.readReg_r (x : Context) (j : LaneIx) : x.readReg (0x40 + 4 * j.val) = Lanes.get x.r j := by
  match j with
  | 0 | 1 | 2 | 3 => rfl

theorem Context.writeReg_a (x : Context) (v : Word) (j : LaneIx) :
    x.writeReg (0x10 + 4 * j.val) v = { x with a := Lanes.put x.a j v } := by
  match j with
  | 0 | 1 | 2 | 3 => rfl

theorem Context.writeReg_b (x : Context) (v : Word) (j : LaneIx) :
    x.writeReg (0x20 + 4 * j.val) v = { x with b := Lanes.put x.b j v } := by
  match j with
  | 0 | 1 | 2 | 3 => rfl

theorem Context.writeReg_r (x : Context) (v : Word) (j : LaneIx) : x.writeReg (0x40 + 4 * j.val) v = x := by
  match j with
  | 0 | 1 | 2 | 3 => rfl

@[simp] theorem Lanes.get_put_same (l : Lanes) (j : LaneIx) (v : Word) : Lanes.get (Lanes.put l j v) j = v := by
  simp [Lanes.put]

/-! ### A register of a present context, by its offset -/

section ContextRegister

variable (s : State) (m : Nat) {c reg : Nat}

theorem toNat_ctxOffset (hc : c < 15) (hr : reg < 0x100) :
    (BitVec.ofNat 12 (ctxBase c + reg)).toNat = 0x100 * (c + 1) + reg := by
  simp only [BitVec.toNat_ofNat, ctxBase]
  omega

theorem pageOf_ctxOffset (hc : c < 15) (hr : reg < 0x100) : pageOf (BitVec.ofNat 12 (ctxBase c + reg)) = c + 1 := by
  rw [pageOf, toNat_ctxOffset hc hr]
  omega

theorem regOf_ctxOffset (hc : c < 15) (hr : reg < 0x100) : regOf (BitVec.ofNat 12 (ctxBase c + reg)) = reg := by
  rw [regOf, toNat_ctxOffset hc hr]
  omega

theorem aligned_ctxOffset (hc : c < 15) (hr : reg < 0x100) (hal : reg % 4 = 0) :
    (BitVec.ofNat 12 (ctxBase c + reg)).toNat % 4 = 0 := by
  rw [toNat_ctxOffset hc hr]
  omega

theorem State.readWindow_ctxOffset (hp : c < s.contexts.length) (hc : c < 15) (hr : reg < 0x100) :
    s.readWindow (BitVec.ofNat 12 (ctxBase c + reg)) = (s.ctx c).readReg reg := by
  rw [s.readWindow_present (pageOf_ctxOffset hc hr) ((s.hasCtx_iff c).2 hp), regOf_ctxOffset hc hr]

theorem performAccess_read_ctx (hp : c < s.contexts.length) (hc : c < 15) (hr : reg < 0x100) (hal : reg % 4 = 0) :
    performAccess ⟨m, 4, BitVec.ofNat 12 (ctxBase c + reg), .read⟩ s =
      .next (s.respond (.readData m ((s.ctx c).readReg reg))) := by
  rw [performAccess_read s m (aligned_ctxOffset hc hr hal), s.readWindow_ctxOffset hp hc hr]

theorem performAccess_write_ctx (v : Word) (hp : c < s.contexts.length) (hc : c < 15) (hr : reg < 0x100)
    (hal : reg % 4 = 0) (hcmd : reg ≠ 0) :
    performAccess ⟨m, 4, BitVec.ofNat 12 (ctxBase c + reg), .write v⟩ s =
      .next ((s.setCtx c ((s.ctx c).writeReg reg v)).respond (.writeDone m)) := by
  have hpage := pageOf_ctxOffset hc hr
  have hreg := regOf_ctxOffset hc hr
  rw [performAccess_write s m v (aligned_ctxOffset hc hr hal) (s.cmdContext_present hpage (by rwa [hreg])),
    s.writeWindow_present v hpage ((s.hasCtx_iff c).2 hp), hreg]

/-- A register that a write replaces by `x` with the word in it, and that then reads the word, holds what is written. -/
theorem write_then_read_ctx (v : Word) {x : Context} (hp : c < s.contexts.length) (hc : c < 15) (hr : reg < 0x100)
    (hal : reg % 4 = 0) (hcmd : reg ≠ 0) (hw : (s.ctx c).writeReg reg v = x) (hv : x.readReg reg = v) :
    ∃ t, performAccess ⟨m, 4, BitVec.ofNat 12 (ctxBase c + reg), .write v⟩ s = .next t ∧
      t = (s.setCtx c x).respond (.writeDone m) ∧ t.readWindow (BitVec.ofNat 12 (ctxBase c + reg)) = v := by
  refine ⟨_, performAccess_write_ctx s m v hp hc hr hal hcmd, by rw [hw], ?_⟩
  rw [State.readWindow_ctxOffset _ (by simpa using hp) hc hr, State.ctx_respond,
    s.ctx_setCtx_same c _ ((s.hasCtx_iff c).2 hp), hw, hv]

end ContextRegister

/-! ### The words of the status registers -/

theorem gstatusWord_fields (l : LState) :
    ((gstatusWord l).getLsbD 0 = true ↔ l = .valid) ∧ ((gstatusWord l).getLsbD 1 = true ↔ l = .busy) ∧
      (gstatusWord l).extractLsb' 2 30 = 0 ∧ gstatusWord l ≠ 3 := by
  cases l <;> decide

theorem cstatusWord_eq (x : Context) : cstatusWord x = if x.errIll then 1 else 0 := by
  cases h : x.errIll <;> simp [cstatusWord, flagBit, h]

/-- The fields of GINFO (10_state.md R32) at every N_CTX of four bits. -/
theorem ginfo_fields : ∀ (n : Fin 16) (g : Bool) (w : Word), w = BitVec.ofNat 32 n.val ||| 0x100 ||| flagBit g 12 →
    (w.extractLsb' 0 4).toNat = n.val ∧ w.extractLsb' 4 4 = 0 ∧ w.extractLsb' 8 4 = 1 ∧ w.getLsbD 12 = g ∧
      w.extractLsb' 13 19 = 0 := by
  simp only [forall_eq]
  decide

/-- The fields of GINFO in a machine whose N_CTX fits its field. -/
theorem ginfoWord_fields (s : State) (h : s.contexts.length ≤ 15) :
    ((ginfoWord s).extractLsb' 0 4).toNat = s.contexts.length ∧ (ginfoWord s).extractLsb' 4 4 = 0 ∧
      (ginfoWord s).extractLsb' 8 4 = 1 ∧ (ginfoWord s).getLsbD 12 = s.gammaPresent ∧
      (ginfoWord s).extractLsb' 13 19 = 0 :=
  ginfo_fields ⟨s.contexts.length, by omega⟩ s.gammaPresent (ginfoWord s)
    (by rw [ginfoWord, Nat.mod_eq_of_lt (show s.contexts.length < 16 by omega)])

theorem ginfoWord_resetInput (s : State) : ginfoWord s.resetInput = ginfoWord s := by
  simp [ginfoWord]

/-! ### The obligations -/

/-- Settles O3: the global page's reads and ignored writes, at ID. -/
theorem idRegister : Obligations.IdRegister := by
  unfold Obligations.IdRegister
  intro s m
  refine ⟨performAccess_read s m (by decide), fun v => ?_⟩
  exact performAccess_write_global s m v (by decide) (by decide) (by decide)

/-- Settles O4: GINFO reads `ginfoWord`, whose fields are `ginfoWord_fields` and which a reset keeps. -/
theorem ginfoRegister : Obligations.GinfoRegister := by
  unfold Obligations.GinfoRegister
  intro s m _ hmax
  obtain ⟨hn, h4, hrev, hgamma, h13⟩ := ginfoWord_fields s hmax
  refine ⟨⟨ginfoWord s, performAccess_read s m (by decide), hn, h4, hrev, hgamma, h13, ginfoWord_resetInput s⟩, fun v => ?_⟩
  exact performAccess_write_global s m v (by decide) (by decide) (by decide)

/-- Settles O5: GSTATUS reads `gstatusWord` of LSTATE, and after reset LSTATE is IDLE. -/
theorem gstatusRegister : Obligations.GstatusRegister := by
  unfold Obligations.GstatusRegister
  refine ⟨fun s m => ⟨⟨gstatusWord s.lstate, performAccess_read s m (by decide), gstatusWord_fields s.lstate⟩, fun v => ?_⟩,
    rfl⟩
  exact performAccess_write_global s m v (by decide) (by decide) (by decide)

/-- Settles O6: a write to GCTRL is `startSequencer` when bit 0 is set, which does something while LSTATE is IDLE only. -/
theorem gctrlRegister : Obligations.GctrlRegister := by
  unfold Obligations.GctrlRegister
  intro s m
  refine ⟨performAccess_read s m (by decide), fun v => ?_⟩
  rw [performAccess_write s m v (by decide) (s.cmdContext_global (by decide)), s.writeWindow_global v (by decide),
    show regOf 0x00C = 0x0C by decide, s.writeGlobal_gctrl v, apply_ite (State.respond · _)]
  rfl

/-- Settles O7: a reserved offset lies in the global page from 0x010 on, in an absent page, or at a reserved register of a
present page. -/
theorem reservedOffsets : Obligations.ReservedOffsets := by
  unfold Obligations.ReservedOffsets
  intro s m off hal hoff
  suffices hw : s.readWindow off = 0 ∧ s.cmdContext off = none ∧ ∀ v, s.writeWindow off v = s by
    obtain ⟨hread, hcmd, hwrite⟩ := hw
    exact ⟨by rw [performAccess_read s m hal, hread], fun v => by rw [performAccess_write s m v hal hcmd, hwrite]⟩
  cases hp : pageOf off with
  | zero =>
    have hreg : 0x10 ≤ regOf off := by unfold pageOf at hp; unfold regOf; omega
    exact ⟨by rw [s.readWindow_global hp, s.readGlobal_reserved hreg], s.cmdContext_global hp,
      fun v => by rw [s.writeWindow_global v hp, s.writeGlobal_ignored v (by omega)]⟩
  | succ c =>
    cases hc : s.hasCtx c with
    | false => exact ⟨s.readWindow_absent hp hc, s.cmdContext_absent hp hc, fun v => s.writeWindow_absent v hp hc⟩
    | true =>
      have hlen := (s.hasCtx_iff c).1 hc
      have hreg : ReservedReg (regOf off) := by unfold pageOf at hp; unfold ReservedReg regOf; omega
      have hcmd : regOf off ≠ 0 := by unfold ReservedReg at hreg; omega
      exact ⟨by rw [s.readWindow_present hp hc, Context.readReg_reserved _ hreg], s.cmdContext_present hp hcmd,
        fun v => by rw [s.writeWindow_present v hp hc, Context.writeReg_reserved _ v hreg, State.setCtx_ctx]⟩

/-- Settles O8: each operand register holds what is written, by `write_then_read_ctx`. -/
theorem operandRegisters : Obligations.OperandRegisters := by
  unfold Obligations.OperandRegisters
  intro s m c v j hp hc
  have hj := j.isLt
  rw [Nat.add_assoc (ctxBase c) 0x10, Nat.add_assoc (ctxBase c) 0x20]
  refine ⟨write_then_read_ctx s m v hp hc (by omega) (by omega) (by omega) (Context.writeReg_a _ v j) ?_,
    write_then_read_ctx s m v hp hc (by omega) (by omega) (by omega) (Context.writeReg_b _ v j) ?_,
    write_then_read_ctx s m v hp hc (by decide) (by decide) (by decide) rfl rfl,
    write_then_read_ctx s m v hp hc (by decide) (by decide) (by decide) rfl rfl⟩
  · rw [Context.readReg_a, Lanes.get_put_same]
  · rw [Context.readReg_b, Lanes.get_put_same]

/-- Settles O9: R, ERRCMD and CMD read as `readReg` says, and `writeReg` leaves a context at R and ERRCMD. -/
theorem resultRegistersReadOnly : Obligations.ResultRegistersReadOnly := by
  unfold Obligations.ResultRegistersReadOnly
  intro s m c j hp hc
  have hj := j.isLt
  rw [Nat.add_assoc (ctxBase c)]
  refine ⟨?_, performAccess_read_ctx s m hp hc (by decide) (by decide),
    performAccess_read_ctx s m (reg := 0) hp hc (by decide) (by decide), fun v => ⟨?_, ?_⟩⟩
  · rw [performAccess_read_ctx s m hp hc (by omega) (by omega), Context.readReg_r]
  · rw [performAccess_write_ctx s m v hp hc (by omega) (by omega) (by omega), Context.writeReg_r, State.setCtx_ctx]
  · rw [performAccess_write_ctx s m v hp hc (by decide) (by decide) (by decide)]
    simp [Context.writeReg]

/-- Settles O10: CSTATUS reads `cstatusWord`, and a write to it is `Context.writeCstatus`. -/
theorem cstatusRegister : Obligations.CstatusRegister := by
  unfold Obligations.CstatusRegister
  intro s m c v hp hc
  refine ⟨?_, _, performAccess_write_ctx s m v hp hc (by decide) (by decide) (by decide), ?_⟩
  · rw [performAccess_read_ctx s m hp hc (by decide) (by decide), ← cstatusWord_eq]
    rfl
  · rw [State.ctx_respond, s.ctx_setCtx_same c _ ((s.hasCtx_iff c).2 hp),
      show (s.ctx c).writeReg 0x04 v = (s.ctx c).writeCstatus v from rfl, Context.writeCstatus_eq]
    exact ⟨rfl, rfl, rfl⟩

end Sys2Proof.Machine

/-! SUPPORT. What a command, an access and a step can do, each as one list of cases over the named operations; from these
the frame of a command and the transitions of LSTATE (10_state.md R46). -/

namespace Sys2Proof.Machine

/-! ### What a command can do -/

/-- Every command completes with some result lanes, or waits for the LUT store, or is illegal for want of a provider. -/
theorem exec_cases {i : Instr} {s t : State} (h : exec i s = .next t) :
    (i = .nop ∧ t = s.completeWrite) ∨
    (∃ l, t = (s.writeR l).completeWrite) ∨
    (i ∈ lutReaders ∧ s.lstate = .valid ∧ ∃ l, t = (s.writeR l).setReady.completeWrite) ∨
    (i ∈ lutReaders ∧ s.lstate ≠ .valid ∧ t = s.startSequencer.waitLut i) ∨
    (opNeedsProvider (opFmtShape i).1 = true ∧ s.gammaPresent = false ∧ t = s.illegalCommand) := by
  rcases exec_shape i with ⟨hi, he⟩ | ⟨f, he⟩ | ⟨hi, he⟩ | ⟨hi, f, he⟩ <;> rw [he] at h
  · exact .inl ⟨hi, (Host.Outcome.next.inj h).symm⟩
  · exact .inr (.inl ⟨_, (Host.Outcome.next.inj h).symm⟩)
  · refine .inr (.inr ?_)
    by_cases hv : s.lstate = .valid
    · rw [computeLut, hv] at h
      exact .inl ⟨hi, hv, _, (Host.Outcome.next.inj h).symm⟩
    · rw [computeLut_waits i _ s hv] at h
      exact .inr (.inl ⟨hi, hv, (Host.Outcome.next.inj h).symm⟩)
  · cases hg : s.gammaPresent with
    | false =>
      rw [computeGamma_absent f s hg] at h
      exact .inr (.inr (.inr (.inr ⟨hi, rfl, (Host.Outcome.next.inj h).symm⟩)))
    | true =>
      rw [computeGamma, hg, if_pos rfl] at h
      exact .inr (.inl ⟨_, (Host.Outcome.next.inj h).symm⟩)

/-- A LUT-reading command needs no provider. -/
theorem opNeedsProvider_of_mem_lutReaders : ∀ i ∈ lutReaders, opNeedsProvider (opFmtShape i).1 = false := by
  decide

/-! ### The frame of a command -/

theorem CommandFrame.refl (s : State) : CommandFrame s s := by
  constructor <;> simp

theorem State.startSequencer_frame (s : State) : CommandFrame s s.startSequencer := by
  constructor <;> simp [State.cur]

theorem State.waitLut_frame (s : State) (i : Instr) (h : s.hasCtx s.issue.ctx = true) : CommandFrame s (s.waitLut i) :=
  CommandFrame.of_setCur s _ h rfl rfl rfl rfl

/-- Settles O20: each operation a command is made of keeps the frame. -/
theorem execFrame : Obligations.ExecFrame := by
  unfold Obligations.ExecFrame
  intro i s t hc he
  rcases exec_cases he with ⟨-, rfl⟩ | ⟨l, rfl⟩ | ⟨-, -, l, rfl⟩ | ⟨-, -, rfl⟩ | ⟨-, -, rfl⟩
  · exact (CommandFrame.refl s).respond _
  · exact (s.writeR_frame l hc).respond _
  · have hw := s.writeR_frame l hc
    exact (hw.trans ((s.writeR l).setReady_frame (by rwa [hw.hasCtx]))).respond _
  · have hs := s.startSequencer_frame
    exact hs.trans (s.startSequencer.waitLut_frame i (by rwa [hs.hasCtx, hs.issue]))
  · exact s.illegalCommand_frame hc

/-! ### What an access can do -/

/-- A write that is no command changes nothing, starts the sequencer, or writes a register of a present context. -/
theorem State.writeWindow_cases (s : State) (off : BitVec 12) (v : Word) :
    s.writeWindow off v = s ∨
    (off = 0x00C ∧ v.getLsbD 0 = true ∧ s.writeWindow off v = s.startSequencer) ∨
    (∃ c, pageOf off = c + 1 ∧ s.hasCtx c = true ∧
      s.writeWindow off v = s.setCtx c ((s.ctx c).writeReg (regOf off) v)) := by
  cases hp : pageOf off with
  | zero =>
    rw [s.writeWindow_global v hp, State.writeGlobal]
    split
    case isTrue h =>
      have hoff : off = 0x00C := BitVec.eq_of_toNat_eq (by
        obtain ⟨hr, -⟩ := h
        unfold pageOf at hp
        unfold regOf at hr
        change off.toNat = 12
        omega)
      exact .inr (.inl ⟨hoff, h.2, rfl⟩)
    case isFalse => exact .inl rfl
  | succ c =>
    cases hc : s.hasCtx c with
    | false => exact .inl (s.writeWindow_absent v hp hc)
    | true => exact .inr (.inr ⟨c, rfl, hc, s.writeWindow_present v hp hc⟩)

/-- Everything an access that is not refused can do: be answered and nothing else, start the sequencer, write a register of
a present context, record an illegal word, or perform a command. -/
theorem performAccess_next {a : Access} {s t : State} (h : performAccess a s = .next t) :
    (∃ r, t = s.respond r) ∨
    (∃ v, a.kind = .write v ∧ a.off = 0x00C ∧ v.getLsbD 0 = true ∧ t = s.startSequencer.respond (.writeDone a.master)) ∨
    (∃ v c, a.admitted = true ∧ pageOf a.off = c + 1 ∧ s.hasCtx c = true ∧
      t = (s.setCtx c ((s.ctx c).writeReg (regOf a.off) v)).respond (.writeDone a.master)) ∨
    (∃ v c e, s.hasCtx c = true ∧ decode v = .illegal e ∧ t = (s.withIssue ⟨a.master, c, v⟩).illegalCommand) ∨
    (∃ v c i, a.kind = .write v ∧ s.cmdContext a.off = some c ∧ decode v = .instr i ∧
      exec i (s.withIssue ⟨a.master, c, v⟩) = .next t) := by
  rcases performAccess_cases a s with ⟨-, hp⟩ | ⟨-, -, hp⟩ | ⟨v, c, -, hk, hc, hp⟩ | ⟨v, had, hk, -, hp⟩ <;> rw [hp] at h
  · cases h
  · exact .inl ⟨_, (Host.Outcome.next.inj h).symm⟩
  · unfold issueCommand at h
    cases hd : decode v with
    | illegal e =>
      rw [hd] at h
      exact .inr (.inr (.inr (.inl ⟨v, c, e, (State.cmdContext_some hc).2.1, hd, (Host.Outcome.next.inj h).symm⟩)))
    | instr i =>
      rw [hd] at h
      exact .inr (.inr (.inr (.inr ⟨v, c, i, hk, hc, hd, h⟩)))
  · obtain rfl := Host.Outcome.next.inj h
    rcases s.writeWindow_cases a.off v with hw | ⟨hoff, hb, hw⟩ | ⟨c, hpage, hc, hw⟩ <;> rw [hw]
    · exact .inl ⟨_, rfl⟩
    · exact .inr (.inl ⟨v, hk, hoff, hb, rfl⟩)
    · exact .inr (.inr (.inl ⟨v, c, had, hpage, hc, rfl⟩))

/-! ### LSTATE -/

/-- A command moves LSTATE only from IDLE to BUSY, and only if it reads the LUT store (41_srgb.md R178). -/
theorem exec_lstate {i : Instr} {s t : State} (h : exec i s = .next t) :
    t.lstate = s.lstate ∨ (s.lstate = .idle ∧ t.lstate = .busy ∧ i ∈ lutReaders) := by
  rcases exec_cases h with ⟨-, rfl⟩ | ⟨l, rfl⟩ | ⟨-, -, l, rfl⟩ | ⟨hi, -, rfl⟩ | ⟨-, -, rfl⟩
  · exact .inl rfl
  · exact .inl rfl
  · exact .inl rfl
  · rw [State.waitLut_lstate, s.startSequencer_lstate]
    split
    case isTrue hl => exact .inr ⟨hl, rfl, hi⟩
    case isFalse => exact .inl rfl
  · exact .inl rfl

/-- The accesses that start the sequencer (10_state.md R34, R46): a GCTRL write with bit 0 set, or a CMD write of a
LUT-reading command. -/
def State.Triggers (s : State) (a : Access) : Prop :=
  ∃ v, a.kind = .write v ∧ ((a.off = 0x00C ∧ v.getLsbD 0 = true) ∨
    (∃ c i, s.cmdContext a.off = some c ∧ decode v = .instr i ∧ i ∈ lutReaders))

theorem State.hasCtx_congr {s t : State} (h : t.contexts = s.contexts) (c : Nat) : t.hasCtx c = s.hasCtx c := by
  rw [State.hasCtx, State.hasCtx, h]

theorem State.cmdContext_congr {s t : State} (h : t.contexts = s.contexts) (off : BitVec 12) :
    t.cmdContext off = s.cmdContext off := by
  cases hp : pageOf off with
  | zero => rw [t.cmdContext_global hp, s.cmdContext_global hp]
  | succ c => simp [State.cmdContext, hp, State.hasCtx_congr h]

theorem State.triggers_congr {s t : State} (h : t.contexts = s.contexts) (a : Access) : t.Triggers a ↔ s.Triggers a := by
  simp only [State.Triggers, State.cmdContext_congr h]

/-- An access moves LSTATE only from IDLE to BUSY, and only if it is one that triggers. -/
theorem performAccess_lstate {a : Access} {s t : State} (h : performAccess a s = .next t) :
    t.lstate = s.lstate ∨ (s.lstate = .idle ∧ t.lstate = .busy ∧ s.Triggers a) := by
  rcases performAccess_next h with ⟨r, rfl⟩ | ⟨v, hk, hoff, hb, rfl⟩ | ⟨v, c, -, -, -, rfl⟩ | ⟨v, c, e, -, -, rfl⟩ |
    ⟨v, c, i, hk, hc, hd, he⟩
  · exact .inl rfl
  · rw [State.respond_lstate, s.startSequencer_lstate]
    split
    case isTrue hl => exact .inr ⟨hl, rfl, v, hk, .inl ⟨hoff, hb⟩⟩
    case isFalse => exact .inl rfl
  · exact .inl rfl
  · exact .inl rfl
  · rcases exec_lstate he with hl | ⟨hl, ht, hi⟩
    · exact .inl hl
    · exact .inr ⟨hl, ht, v, hk, .inr ⟨c, i, hc, hd, hi⟩⟩

/-- A waiting command goes on only with LSTATE VALID, and is that of the context it names. -/
theorem State.resumable_some {s : State} {c m : Nat} {i : Instr} (h : s.resumable = some (c, m, i)) :
    s.lstate = .valid ∧ s.hasCtx c = true ∧ ∃ o, (s.ctx c).cstate = .waitLut m i o := by
  cases hl : s.lstate with
  | idle => simp [State.resumable, hl] at h
  | busy => simp [State.resumable, hl] at h
  | valid =>
    rw [State.resumable, hl] at h
    obtain ⟨x, o, -, hx, hw⟩ := firstWaiting_some h
    rw [Nat.sub_zero] at hx
    exact ⟨rfl, by simp [State.hasCtx, hx], o, by simpa [State.ctx, hx] using hw⟩

/-- After the sequencer's cycle a step that takes no reset leaves LSTATE as the cycle left it, or moves it from IDLE to BUSY
by an access taken. -/
theorem step_lstate {s t : State} (h : step s = .next t) (hr : ∀ rest, s.pick ≠ some (.reset, rest)) :
    t.lstate = s.sequencerCycle.lstate ∨
    (s.sequencerCycle.lstate = .idle ∧ t.lstate = .busy ∧ ∃ a rest, s.pick = some (.access a, rest) ∧ s.Triggers a) := by
  rcases step_cases s with ⟨rest, hp, -⟩ | ⟨c, m, i, -, hres, hs⟩ | ⟨a, rest, hp, hs⟩ | ⟨-, -, hs⟩
  · exact absurd hp (hr rest)
  · obtain ⟨hv, -⟩ := State.resumable_some hres
    rw [hs] at h
    rcases exec_lstate h with hl | ⟨hl, -⟩
    · exact .inl hl
    · rw [State.withIssue_lstate, hv] at hl
      cases hl
  · rw [hs] at h
    rcases performAccess_lstate h with hl | ⟨hl, ht, htr⟩
    · exact .inl hl
    · exact .inr ⟨hl, ht, a, rest, hp.1, (State.triggers_congr (by simp) a).1 htr⟩
  · rw [hs] at h
    exact .inl (congrArg State.lstate (Host.Outcome.next.inj h)).symm

theorem State.sequencerCycle_of_ne_busy {s : State} (h : s.lstate ≠ .busy) : s.sequencerCycle = s := by
  rcases s.sequencerCycle_cases with ⟨-, hc⟩ | ⟨hb, -⟩ | ⟨hb, -⟩
  · exact hc
  · exact absurd hb h
  · exact absurd hb h

theorem State.sequencerCycle_lstate_of_busy {s : State} (h : s.lstate = .busy) :
    s.sequencerCycle.lstate = .busy ∨ s.sequencerCycle.lstate = .valid := by
  rcases s.sequencerCycle_cases with ⟨hb, -⟩ | ⟨-, -, hl, -⟩ | ⟨-, -, hl, -⟩
  · exact absurd h hb
  · exact .inl hl
  · exact .inr hl

/-- Settles O53: the sequencer's cycle moves LSTATE from BUSY only, and what follows it (`step_lstate`) from IDLE only. -/
theorem lstateTransitions : Obligations.LstateTransitions := by
  unfold Obligations.LstateTransitions
  intro s t h hr
  have kept (hs : s.sequencerCycle.lstate ≠ .idle) : t.lstate = s.sequencerCycle.lstate :=
    (step_lstate h hr).resolve_right fun hi => hs hi.1
  refine ⟨fun hv => ?valid, fun hb => ?busy, fun hi => ?idle⟩
  case valid =>
    rw [State.sequencerCycle_of_ne_busy (by simp [hv])] at kept
    rw [kept (by simp [hv]), hv]
  case busy =>
    have hl := State.sequencerCycle_lstate_of_busy hb
    rw [kept (by rcases hl with hl | hl <;> simp [hl])]
    exact hl
  case idle =>
    have hstep := step_lstate h hr
    rw [State.sequencerCycle_of_ne_busy (by simp [hi]), hi] at hstep
    rcases hstep with ht | ⟨-, ht, a, rest, hp, v, hk, htr⟩
    · exact .inl ht
    · exact .inr ⟨ht, a, rest, v, hp, hk, htr⟩

end Sys2Proof.Machine

/-! SUPPORT. The invariant of PXA, kept by each operation on the state, by each command, by each access and by the step. -/

namespace Sys2Proof.Machine

/-! ### The words the decoder rejects are the illegal ones (30_encoding.md R108) -/

/-- The rows of the decoder list the FMT and SHAPE sets of R104. -/
theorem instrOf_isSome (o : Op) (f : Fmt) (sh : Shape) :
    (instrOf o f sh).isSome = ((legalFmts o).contains f && (legalShapes o).contains sh) := by
  cases o <;> cases f <;> cases sh <;> rfl

/-- A command stands in the decoder's row of its own OP, FMT and SHAPE. -/
theorem opFmtShape_of_instrOf {o : Op} {f : Fmt} {sh : Shape} {i : Instr} (h : instrOf o f sh = some i) :
    opFmtShape i = (o, f, sh) := by
  cases o <;> cases f <;> cases sh <;> cases h <;> rfl

/-- The decoder answers a command exactly when the reserved bits are 0 and OP and FMT are numbers of a row that lists it. -/
theorem decode_eq_instr_iff (w : Word) (i : Instr) : decode w = .instr i ↔
    (fieldsOf w).rsvd = 0 ∧ ∃ o fm, opOfBits (fieldsOf w).op = some o ∧ fmtOfBits (fieldsOf w).fmt = some fm ∧
      instrOf o fm (shapeOfBits (fieldsOf w).shape) = some i := by
  unfold decode
  dsimp only
  split
  case isTrue hr => exact ⟨nofun, fun h => absurd h.1 hr⟩
  case isFalse hr =>
    have hr : (fieldsOf w).rsvd = 0 := not_not.1 hr
    cases ho : opOfBits (fieldsOf w).op with
    | none => simp
    | some o => cases hf : fmtOfBits (fieldsOf w).fmt with
      | none => simp
      | some fm => cases hi : instrOf o fm (shapeOfBits (fieldsOf w).shape) with
        | none => simp [hi]
        | some j => simp [hr, hi]

/-- Fields with reserved bits 0 and with the numbers of an OP and a FMT are legal when the row lists them and the OP has
the provider it needs. -/
theorem wellFormed_of_numbers (g : Bool) {f : Fields} {o : Op} {fm : Fmt} (hr : f.rsvd = 0)
    (ho : opListed f.op = some o) (hf : fmtListed f.fmt = some fm) :
    WellFormed g f = ((instrOf o fm (shapeListed f.shape)).isSome && (g || !opNeedsProvider o)) := by
  simp [WellFormed, rsvdOk, opOk, fmtOk, shapeOk, providerOk, hr, ho, hf, instrOf_isSome]

/-- A word that decodes to a command is legal unless the command lacks the provider it needs. The decoder's tables of
numbers and those of the legality conditions are two definitions of the same functions. -/
theorem wellFormed_of_decode_instr (g : Bool) {w : Word} {i : Instr} (h : decode w = .instr i) :
    WellFormed g (fieldsOf w) = (g || !opNeedsProvider (opFmtShape i).1) := by
  obtain ⟨hr, o, fm, ho, hf, hi⟩ := (decode_eq_instr_iff w i).1 h
  have hi' : instrOf o fm (shapeListed (fieldsOf w).shape) = some i := hi
  rw [wellFormed_of_numbers g hr ho hf, hi', opFmtShape_of_instrOf hi, Option.isSome_some, Bool.true_and]

/-- A legal word decodes to a command. -/
theorem decode_of_wellFormed {g : Bool} {w : Word} (h : WellFormed g (fieldsOf w) = true) : ∃ i, decode w = .instr i := by
  obtain ⟨⟨⟨⟨hr, hop⟩, hfmt⟩, -⟩, -⟩ : (((rsvdOk (fieldsOf w) = true ∧ opOk (fieldsOf w) = true) ∧
      fmtOk (fieldsOf w) = true) ∧ shapeOk (fieldsOf w) = true) ∧ providerOk g (fieldsOf w) = true := by
    simpa only [WellFormed, Bool.and_eq_true] using h
  have hr : (fieldsOf w).rsvd = 0 := eq_of_beq hr
  obtain ⟨o, ho⟩ := Option.isSome_iff_exists.1 hop
  cases hf : fmtListed (fieldsOf w).fmt with
  | none => simp [fmtOk, ho, hf] at hfmt
  | some fm =>
    rw [wellFormed_of_numbers g hr ho hf, Bool.and_eq_true] at h
    obtain ⟨i, hi⟩ := Option.isSome_iff_exists.1 h.1
    exact ⟨i, (decode_eq_instr_iff w i).2 ⟨hr, o, fm, ho, hf, hi⟩⟩

/-- A word that decodes to no command is illegal in every configuration. -/
theorem wellFormed_of_decode_illegal (g : Bool) {w : Word} {e : DecodeError} (h : decode w = .illegal e) :
    WellFormed g (fieldsOf w) = false := by
  by_contra hw
  obtain ⟨i, hi⟩ := decode_of_wellFormed (Bool.eq_true_of_not_eq_false hw)
  rw [h] at hi
  cases hi

/-! ### What each operation on a context keeps -/

theorem ErrOk.of_eq {g : Bool} {x y : Context} (h : ErrOk g x) (hw : y.errcmd = x.errcmd)
    (hi : y.errIll = true → x.errIll = true) : ErrOk g y :=
  ⟨hw ▸ h.1, fun hy => hw ▸ h.2 (hi hy)⟩

/-- Recording an illegal word keeps the error invariant: ERRCMD is the word, or the illegal one it held. -/
theorem ErrOk.recordIllegal {g : Bool} {x : Context} (h : ErrOk g x) {w : Word}
    (hw : WellFormed g (fieldsOf w) = false) : ErrOk g (x.recordIllegal w) := by
  have hcmd : WellFormed g (fieldsOf (x.recordIllegal w).errcmd) = false := by
    rw [Context.recordIllegal_errcmd]
    split
    case isTrue hset => exact h.2 hset
    case isFalse => exact hw
  exact ⟨.inr hcmd, fun _ => hcmd⟩

theorem WaitOk.of_eq {x y : Context} (h : WaitOk x) (hs : y.cstate = x.cstate) (ho : y.operands = x.operands) :
    WaitOk y :=
  fun m i o hy => ho ▸ h m i o (hs ▸ hy)

theorem WaitOk.of_ready {x : Context} (h : x.cstate = .ready) : WaitOk x := by
  intro m i o hx
  rw [h] at hx
  cases hx

/-- A host's write to a register keeps ERRCMD and CSTATE and sets no ERR_ILL (10_state.md R38, R39). -/
theorem Context.writeReg_kept (x : Context) (reg : Nat) (v : Word) :
    (x.writeReg reg v).errcmd = x.errcmd ∧ (x.writeReg reg v).cstate = x.cstate ∧
      ((x.writeReg reg v).errIll = true → x.errIll = true) := by
  unfold Context.writeReg
  split
  case h_1 => rw [Context.writeCstatus_eq]; exact ⟨rfl, rfl, fun h => (Bool.and_eq_true_iff.1 h).1⟩
  all_goals exact ⟨rfl, rfl, id⟩

/-! ### An access taken finds its context not busy (20_memory.md R79) -/

theorem State.contextBusy_congr {s t : State} (h : t.contexts = s.contexts) (a : Access) :
    t.contextBusy a = s.contextBusy a := by
  simp only [State.contextBusy, State.ctx, h]

/-- The choice of the next input passes over an access to a busy context. -/
theorem State.contextBusy_of_pickFrom {s : State} {a : Access} : ∀ {held : List Nat} {l rest : List Input},
    s.pickFrom held l = some (.access a, rest) → s.contextBusy a = false
  | _, [], _, h => by simp [State.pickFrom] at h
  | _, .reset :: _, _, h => by simp [State.pickFrom] at h
  | held, .access b :: l, rest, h => by
    rw [State.pickFrom] at h
    split at h
    case isTrue =>
      split at h
      case h_1 => cases h
      case h_2 i rest' hl =>
        obtain ⟨rfl, -⟩ : i = .access a ∧ _ := by simpa using h
        exact State.contextBusy_of_pickFrom hl
    case isFalse hfree =>
      obtain ⟨rfl, -⟩ : b = a ∧ _ := by simpa using h
      exact (Bool.or_eq_false_iff.1 (Bool.eq_false_of_not_eq_true hfree)).2

theorem State.contextBusy_of_pick {s : State} {a : Access} {rest : List Input} (h : s.pick = some (.access a, rest)) :
    s.contextBusy a = false :=
  State.contextBusy_of_pickFrom h

/-- The context an admitted access addresses is READY if it is not busy. -/
theorem ready_of_not_contextBusy {s : State} {a : Access} {c : Nat} (hb : s.contextBusy a = false)
    (had : a.admitted = true) (hp : pageOf a.off = c + 1) : (s.ctx c).cstate = .ready := by
  cases hw : (s.ctx c).cstate with
  | ready => rfl
  | waitLut m i o => simp [State.contextBusy, hp, had, Context.heldMaster, hw] at hb

/-! ### What each operation on the state keeps -/

namespace PxaInv

variable {s t : State}

/-- Where only the LUT unit and the model's own fields have changed, the invariant asks only about these. -/
theorem of_contexts_eq (h : PxaInv s) (hctx : t.contexts = s.contexts) (hgamma : t.gammaPresent = s.gammaPresent)
    (hissue : s.hasCtx t.issue.ctx = true) (hidle : t.lstate = .idle → s.lstate = .idle)
    (hbusy : t.lstate = .busy → t.seqCycle < Config.tInit) (hvalid : t.lstate = .valid → t.lut = LutStore.tables) :
    PxaInv t where
  count := by rw [hctx]; exact h.count
  issued := by rw [State.hasCtx_congr hctx]; exact hissue
  idle hl := by rw [hctx]; exact h.idle (hidle hl)
  busy := hbusy
  valid := hvalid
  err := by rw [hctx, hgamma]; exact h.err
  wait := by rw [hctx]; exact h.wait

theorem withInputs (h : PxaInv s) (l : List Input) : PxaInv (s.withInputs l) :=
  h.of_contexts_eq rfl rfl h.issued id h.busy h.valid

theorem withIssue (h : PxaInv s) {x : Issue} (hx : s.hasCtx x.ctx = true) : PxaInv (s.withIssue x) :=
  h.of_contexts_eq rfl rfl hx id h.busy h.valid

theorem respond (h : PxaInv s) (r : Response) : PxaInv (s.respond r) :=
  h.of_contexts_eq rfl rfl h.issued id h.busy h.valid

theorem completeWrite (h : PxaInv s) : PxaInv s.completeWrite := h.respond _

/-- A start sets the cycle count to 0, and T_INIT is at least 1. -/
theorem startSequencer (h : PxaInv s) : PxaInv s.startSequencer := by
  by_cases hl : s.lstate = .idle
  · rw [s.startSequencer_of_idle hl]
    exact h.of_contexts_eq rfl rfl h.issued nofun (fun _ => Nat.succ_pos _) nofun
  · rwa [s.startSequencer_of_ne_idle hl]

/-- The sequencer's cycle leaves cycles to go, or VALID with the final tables (41_srgb.md R177). -/
theorem sequencerCycle (h : PxaInv s) : PxaInv s.sequencerCycle := by
  rcases s.sequencerCycle_cases with ⟨-, hc⟩ | ⟨-, hlt, hl, hcyc⟩ | ⟨-, -, hl, hlut⟩
  · rwa [hc]
  · exact h.of_contexts_eq (by simp) (by simp) (by simpa using h.issued) (by simp [hl]) (fun _ => hcyc ▸ hlt) (by simp [hl])
  · exact h.of_contexts_eq (by simp) (by simp) (by simpa using h.issued) (by simp [hl]) (by simp [hl]) (fun _ => hlut)

/-- Replacing one context keeps the invariant when the new one meets what it asks of a context. -/
theorem setCtx (h : PxaInv s) (c : Nat) {x : Context} (hidle : s.lstate = .idle → x.cstate = .ready)
    (herr : ErrOk s.gammaPresent x) (hwait : WaitOk x) : PxaInv (s.setCtx c x) where
  count := by simpa using h.count
  issued := by simpa using h.issued
  idle hl y hy := (List.mem_or_eq_of_mem_set hy).elim (h.idle hl y) fun hyx => hyx ▸ hidle hl
  busy := h.busy
  valid := h.valid
  err y hy := (List.mem_or_eq_of_mem_set hy).elim (h.err y) fun hyx => hyx ▸ herr
  wait y hy := (List.mem_or_eq_of_mem_set hy).elim (h.wait y) fun hyx => hyx ▸ hwait

theorem cur_mem (h : PxaInv s) : s.cur ∈ s.contexts := s.ctx_mem s.issue.ctx h.issued

/-- The snapshot of the command being performed is what the registers hold, also for a context that waits. -/
theorem snapshot_eq (h : PxaInv s) : s.snapshot = s.cur.operands := by
  unfold State.snapshot
  split
  case h_1 => rfl
  case h_2 m i o hw => exact (h.wait s.cur h.cur_mem m i o hw).2

theorem writeR (h : PxaInv s) (l : Lanes) : PxaInv (s.writeR l) :=
  h.setCtx _ (fun hl => h.idle hl s.cur h.cur_mem) (h.err s.cur h.cur_mem) (h.wait s.cur h.cur_mem)

theorem setReady (h : PxaInv s) : PxaInv s.setReady :=
  h.setCtx _ (fun _ => rfl) (h.err s.cur h.cur_mem) (WaitOk.of_ready rfl)

/-- A LUT-reading command may wait once the sequencer has been started. -/
theorem waitLut (h : PxaInv s) {i : Instr} (hi : i ∈ lutReaders) (hl : s.lstate ≠ .idle) : PxaInv (s.waitLut i) :=
  h.setCtx _ (fun hidle => absurd hidle hl) (h.err s.cur h.cur_mem) (by
    intro m j o hw
    obtain ⟨-, rfl, rfl⟩ := CState.waitLut.inj hw
    exact ⟨hi, h.snapshot_eq⟩)

theorem illegalCommand (h : PxaInv s) (hw : WellFormed s.gammaPresent (fieldsOf s.issue.word) = false) :
    PxaInv s.illegalCommand :=
  have hx : PxaInv (s.setCur (s.cur.recordIllegal s.issue.word)) :=
    h.setCtx _ (fun hl => h.idle hl s.cur h.cur_mem) ((h.err s.cur h.cur_mem).recordIllegal hw)
      ((h.wait s.cur h.cur_mem).of_eq rfl rfl)
  hx.completeWrite

/-- A reset keeps the number of contexts and leaves each as after reset. -/
theorem resetInput (h : PxaInv s) : PxaInv s.resetInput where
  count := by simpa using h.count
  issued := by
    obtain ⟨hpos, -⟩ := h.count
    rw [State.hasCtx_iff, State.resetInput_contexts, List.length_map]
    exact hpos
  idle _ x hx := by obtain ⟨-, -, rfl⟩ := List.mem_map.1 hx; rfl
  busy := nofun
  valid := nofun
  err x hx := by obtain ⟨-, -, rfl⟩ := List.mem_map.1 hx; exact ⟨.inl rfl, nofun⟩
  wait x hx := by obtain ⟨-, -, rfl⟩ := List.mem_map.1 hx; exact WaitOk.of_ready rfl

/-- A host's write to a register of a context that does not wait (20_memory.md R79). -/
theorem setCtx_writeReg (h : PxaInv s) {c : Nat} (hc : s.hasCtx c = true) (hready : (s.ctx c).cstate = .ready) (reg : Nat)
    (v : Word) : PxaInv (s.setCtx c ((s.ctx c).writeReg reg v)) := by
  obtain ⟨hcmd, hstate, hill⟩ := (s.ctx c).writeReg_kept reg v
  rw [hready] at hstate
  exact h.setCtx c (fun _ => hstate) ((h.err _ (s.ctx_mem c hc)).of_eq hcmd hill) (WaitOk.of_ready hstate)

/-! ### Commands, accesses and the step -/

/-- A command keeps the invariant, if the word it is issued by is illegal where it lacks its provider. -/
theorem exec (h : PxaInv s) {i : Instr} (hword : opNeedsProvider (opFmtShape i).1 = true → s.gammaPresent = false →
    WellFormed s.gammaPresent (fieldsOf s.issue.word) = false) (he : exec i s = .next t) : PxaInv t := by
  rcases exec_cases he with ⟨-, rfl⟩ | ⟨l, rfl⟩ | ⟨-, -, l, rfl⟩ | ⟨hi, -, rfl⟩ | ⟨hn, hg, rfl⟩
  · exact h.completeWrite
  · exact (h.writeR l).completeWrite
  · exact (h.writeR l).setReady.completeWrite
  · refine h.startSequencer.waitLut hi ?_
    rw [s.startSequencer_lstate]
    split
    case isTrue => nofun
    case isFalse hl => exact hl
  · exact h.illegalCommand (hword hn hg)

/-- An access to a context that is not busy keeps the invariant. -/
theorem performAccess (h : PxaInv s) {a : Access} (hb : s.contextBusy a = false) (hp : performAccess a s = .next t) :
    PxaInv t := by
  rcases performAccess_next hp with ⟨r, rfl⟩ | ⟨v, -, -, -, rfl⟩ | ⟨v, c, had, hpage, hc, rfl⟩ | ⟨v, c, e, hc, hd, rfl⟩ |
    ⟨v, c, i, -, hcmd, hd, he⟩
  · exact h.respond r
  · exact h.startSequencer.respond _
  · exact (h.setCtx_writeReg hc (ready_of_not_contextBusy hb had hpage) _ v).respond _
  · exact (h.withIssue hc).illegalCommand (wellFormed_of_decode_illegal _ hd)
  · refine (h.withIssue (State.cmdContext_some hcmd).2.1).exec (fun hn hg => ?_) he
    rw [hg]
    exact (wellFormed_of_decode_instr false hd).trans (by simp [hn])

/-- A waiting command that goes on keeps the invariant: it reads the LUT store, so it needs no provider. -/
theorem resumeCommand (h : PxaInv s) {c m : Nat} {i : Instr} (hr : s.resumable = some (c, m, i))
    (hp : resumeCommand c m i s = .next t) : PxaInv t := by
  obtain ⟨-, hc, o, hw⟩ := State.resumable_some hr
  obtain ⟨hi, -⟩ := h.wait _ (s.ctx_mem c hc) m i o hw
  refine (h.withIssue hc).exec (fun hn => ?_) hp
  rw [opNeedsProvider_of_mem_lutReaders i hi] at hn
  cases hn

theorem step (h : PxaInv s) (hs : step s = .next t) : PxaInv t := by
  rcases step_cases s with ⟨rest, -, he⟩ | ⟨c, m, i, -, hr, he⟩ | ⟨a, rest, hp, he⟩ | ⟨-, -, he⟩ <;> rw [he] at hs
  · obtain rfl := Host.Outcome.next.inj hs
    exact (h.withInputs rest).resetInput
  · exact h.sequencerCycle.resumeCommand hr hs
  · have hb := State.contextBusy_of_pick hp.1
    rw [← State.contextBusy_congr (t := s.sequencerCycle.withInputs rest) (by simp)] at hb
    exact (h.sequencerCycle.withInputs rest).performAccess hb hs
  · obtain rfl := Host.Outcome.next.inj hs
    exact h.sequencerCycle

theorem afterBusError (h : PxaInv s) : PxaInv s.afterBusError := by
  unfold State.afterBusError
  split
  case h_1 rest _ => exact h.sequencerCycle.withInputs rest
  case h_2 => exact h

end PxaInv

/-- Settles O60: each case of the step is an operation that keeps the invariant. -/
theorem stepKeepsInvariant : Obligations.StepKeepsInvariant :=
  ⟨fun _ _ => PxaInv.step, fun _ => PxaInv.afterBusError⟩

end Sys2Proof.Machine

/-! SUPPORT. The bus (20_memory.md R73-R80): which accesses fault, in which order they are taken, which contexts an access
leaves alone, and that a command's result is of its snapshot and the configuration. -/

namespace Sys2Proof.Machine

/-! ### Admitted and malformed accesses (20_memory.md R73) -/

theorem Access.admitted_iff (a : Access) : a.admitted = true ↔ a.width = 4 ∧ a.off.toNat % 4 = 0 := by
  simp [Access.admitted]

theorem Access.admitted_eq_false_iff (a : Access) : a.admitted = false ↔ a.width ≠ 4 ∨ a.off.toNat % 4 ≠ 0 := by
  rw [← Bool.not_eq_true, a.admitted_iff, not_and_or]

/-- A BusError is decided on the access alone, whatever the state. -/
theorem performAccess_malformed {a : Access} (h : a.admitted = false) (s : State) :
    performAccess a s = .fault (.busError (Config.pxaBase + a.off.toNat)) := by
  simp [performAccess, h]

theorem admitted_of_performAccess_next {a : Access} {s t : State} (h : performAccess a s = .next t) :
    a.admitted = true := by
  by_contra had
  rw [performAccess_malformed (Bool.eq_false_of_not_eq_true had)] at h
  cases h

/-! ### Only a malformed access faults (60_exceptions.md R273, R275) -/

theorem exec_next (i : Instr) (s : State) : ∃ t, exec i s = .next t := by
  rcases exec_shape i with ⟨-, he⟩ | ⟨f, he⟩ | ⟨-, he⟩ | ⟨-, f, he⟩ <;> exact ⟨_, he s⟩

theorem issueCommand_next (m c : Nat) (w : Word) (s : State) : ∃ t, issueCommand m c w s = .next t := by
  unfold issueCommand
  cases decode w with
  | illegal e => exact ⟨_, rfl⟩
  | instr i => exact exec_next i _

theorem performAccess_next_of_admitted {a : Access} (h : a.admitted = true) (s : State) :
    ∃ t, performAccess a s = .next t := by
  rcases performAccess_cases a s with ⟨hf, -⟩ | ⟨-, -, hp⟩ | ⟨v, c, -, -, -, hp⟩ | ⟨v, -, -, -, hp⟩
  · rw [h] at hf; cases hf
  · exact ⟨_, hp⟩
  · rw [hp]; exact issueCommand_next ..
  · exact ⟨_, hp⟩

/-- A step that faults takes a malformed access. -/
theorem step_fault {s : State} {e : Fault} (h : step s = .fault e) :
    ∃ a rest, s.takesNext a rest ∧ a.admitted = false ∧ e = .busError (Config.pxaBase + a.off.toNat) := by
  rcases step_cases s with ⟨rest, -, hs⟩ | ⟨c, m, i, -, -, hs⟩ | ⟨a, rest, htake, hs⟩ | ⟨-, -, hs⟩ <;> rw [hs] at h
  · cases h
  · obtain ⟨t, ht⟩ := exec_next i (s.sequencerCycle.withIssue ⟨m, c, encode i⟩)
    cases ht.symm.trans h
  · cases had : a.admitted with
    | true =>
      obtain ⟨t, ht⟩ := performAccess_next_of_admitted had (s.sequencerCycle.withInputs rest)
      cases ht.symm.trans h
    | false =>
      rw [performAccess_malformed had] at h
      exact ⟨a, rest, htake, had, (Host.Outcome.fault.inj h).symm⟩
  · cases h

theorem State.afterBusError_of_pick {s : State} {x : Input} {rest : List Input} (h : s.pick = some (x, rest)) :
    s.afterBusError = s.sequencerCycle.withInputs rest := by
  simp [State.afterBusError, h]

/-- What PXA keeps over a BusError, also where the step takes none. -/
theorem State.afterBusError_kept (s : State) : s.afterBusError.contexts = s.contexts ∧
    s.afterBusError.responses = s.responses ∧ s.afterBusError.gammaPresent = s.gammaPresent := by
  unfold State.afterBusError
  split
  case h_1 => simp
  case h_2 => exact ⟨rfl, rfl, rfl⟩

/-- Settles O11: `performAccess_malformed` for the access, `step_fault` for the step. -/
theorem malformedAccessFaults : Obligations.MalformedAccessFaults := by
  unfold Obligations.MalformedAccessFaults
  refine ⟨fun s a h => performAccess_malformed (a.admitted_eq_false_iff.2 h) s, State.afterBusError_kept, fun s e h => ?_⟩
  obtain ⟨a, rest, htake, had, he⟩ := step_fault h
  have hafter := State.afterBusError_of_pick htake.1
  exact ⟨a, rest, htake, had, he, hafter, by rw [hafter]; rfl, by rw [hafter]; rfl⟩

/-- Settles O12: an admitted read is an aligned one of 32 bits. -/
theorem readsHaveNoSideEffects : Obligations.ReadsHaveNoSideEffects := by
  unfold Obligations.ReadsHaveNoSideEffects
  rintro s ⟨m, width, off, kind⟩ had rfl
  obtain ⟨rfl, hal⟩ := (Access.admitted_iff _).1 had
  exact performAccess_read s m hal

/-! ### The step that takes an access -/

theorem State.takesNext.step_eq {s : State} {a : Access} {rest : List Input} (h : s.takesNext a rest) :
    step s = performAccess a (s.sequencerCycle.withInputs rest) := by
  obtain ⟨hpick, hres⟩ := h
  rcases step_cases s with ⟨r, hp, -⟩ | ⟨c, m, i, -, hr, -⟩ | ⟨b, r, ⟨hp, -⟩, hs⟩ | ⟨hp, -, -⟩
  · cases hpick.symm.trans hp
  · cases hres.symm.trans hr
  · cases hpick.symm.trans hp
    exact hs
  · cases hpick.symm.trans hp

/-- Settles O15: of the cases of a step only the access is left. -/
theorem stepPerformsAccess : Obligations.StepPerformsAccess :=
  fun _ _ _ => State.takesNext.step_eq

/-! ### The order of the bus (20_memory.md R78, R79) -/

/-- The choice takes no access of a held master, and each access it passes over holds its own master from there on. -/
theorem State.pickFrom_order {s : State} {a : Access} : ∀ {held : List Nat} {l rest : List Input},
    s.pickFrom held l = some (.access a, rest) → ∃ pre post, l = pre ++ .access a :: post ∧ rest = pre ++ post ∧
      a.master ∉ held ∧ ∀ b, Input.access b ∈ pre → b.master ≠ a.master
  | _, [], _, h => by simp [State.pickFrom] at h
  | _, .reset :: _, _, h => by simp [State.pickFrom] at h
  | held, .access b :: l, rest, h => by
    rw [State.pickFrom] at h
    split at h
    case isTrue =>
      split at h
      case h_1 => cases h
      case h_2 i rest' hl =>
        obtain ⟨rfl, rfl⟩ : i = .access a ∧ .access b :: rest' = rest := by simpa using h
        obtain ⟨pre, post, rfl, rfl, hheld, hpre⟩ := State.pickFrom_order hl
        obtain ⟨hba, hheld⟩ : a.master ≠ b.master ∧ a.master ∉ held := by simpa using hheld
        refine ⟨.access b :: pre, post, rfl, rfl, hheld, fun d hd => ?_⟩
        rcases List.mem_cons.1 hd with hdb | hd
        · obtain rfl := Input.access.inj hdb
          exact hba.symm
        · exact hpre d hd
    case isFalse hfree =>
      obtain ⟨rfl, rfl⟩ : b = a ∧ l = rest := by simpa using h
      obtain ⟨hheld, -⟩ : b.master ∉ held ∧ s.contextBusy b = false := by simpa using hfree
      exact ⟨[], l, rfl, rfl, hheld, by simp⟩

/-- Settles O57: `pickFrom_order` from the masters held at first, and the access taken is to no busy context. -/
theorem busOrderIsKept : Obligations.BusOrderIsKept := by
  unfold Obligations.BusOrderIsKept
  intro s a rest h
  obtain ⟨pre, post, hl, hrest, hheld, hpre⟩ := State.pickFrom_order h
  exact ⟨pre, post, hl, hrest, hheld, State.contextBusy_of_pick h, hpre⟩

/-! ### The contexts an access does not address (20_memory.md R80) -/

/-- Issuing a word on a present context, legal or not, leaves the command frame. -/
theorem issueCommand_frame {m c : Nat} {w : Word} {s t : State} (hc : s.hasCtx c = true)
    (h : issueCommand m c w s = .next t) : CommandFrame (s.withIssue ⟨m, c, w⟩) t := by
  unfold issueCommand at h
  cases hd : decode w with
  | illegal e =>
    rw [hd] at h
    obtain rfl := Host.Outcome.next.inj h
    exact State.illegalCommand_frame _ hc
  | instr i =>
    rw [hd] at h
    exact execFrame i _ t hc h

theorem State.writeWindow_ctx_other (s : State) {off : BitVec 12} (v : Word) {d : Nat} (hd : pageOf off ≠ d + 1) :
    (s.writeWindow off v).ctx d = s.ctx d := by
  rcases s.writeWindow_cases off v with hw | ⟨-, -, hw⟩ | ⟨c, hp, -, hw⟩ <;> rw [hw]
  · exact s.ctx_startSequencer d
  · exact s.ctx_setCtx_other c d _ (by omega)

theorem performAccess_ctx_other {a : Access} {s t : State} {d : Nat} (h : performAccess a s = .next t)
    (hd : pageOf a.off ≠ d + 1) : t.ctx d = s.ctx d := by
  rcases performAccess_cases a s with ⟨-, hp⟩ | ⟨-, -, hp⟩ | ⟨v, c, -, -, hcmd, hp⟩ | ⟨v, -, -, -, hp⟩ <;> rw [hp] at h
  · cases h
  · obtain rfl := Host.Outcome.next.inj h
    rfl
  · obtain ⟨hpage, hc, -⟩ := State.cmdContext_some hcmd
    exact (issueCommand_frame hc h).others d (show d ≠ c by omega)
  · obtain rfl := Host.Outcome.next.inj h
    exact s.writeWindow_ctx_other v hd

/-- Settles O58: neither the sequencer's cycle nor the access touches a context of another page. -/
theorem otherContextsUntouched : Obligations.OtherContextsUntouched := by
  unfold Obligations.OtherContextsUntouched
  intro s a rest t d htake hstep hd
  rw [htake.step_eq] at hstep
  rw [performAccess_ctx_other hstep hd, State.ctx_withInputs, State.ctx_sequencerCycle]

/-! ### A waiting context (20_memory.md R79, R84) -/

theorem exec_of_mem_lutReaders {i : Instr} (hi : i ∈ lutReaders) (s : State) : exec i s = computeLut i (lutResult i) s := by
  simp only [lutReaders, List.mem_cons, List.not_mem_nil, or_false] at hi
  rcases hi with rfl | rfl | rfl | rfl | rfl | rfl | rfl | rfl | rfl | rfl <;> rfl

/-- A waiting command that goes on is done: R of its context is written and the context is READY. -/
theorem resumeCommand_done {s t : State} {c m : Nat} {i : Instr} (hinv : PxaInv s) (hres : s.resumable = some (c, m, i))
    (h : resumeCommand c m i s = .next t) : CommandDone (s.withIssue ⟨m, c, encode i⟩) t := by
  obtain ⟨hvalid, hc, o, hw⟩ := State.resumable_some hres
  obtain ⟨hi, -⟩ := hinv.wait _ (s.ctx_mem c hc) m i o hw
  obtain ⟨u, hu, hdone, -⟩ := computeLut_next i (lutResult i) (s.withIssue ⟨m, c, encode i⟩) hc hvalid
  rw [resumeCommand, exec_of_mem_lutReaders hi, hu] at h
  exact Host.Outcome.next.inj h ▸ hdone

/-- An access that is taken leaves a waiting context: it addresses another one. -/
theorem performAccess_ctx_waiting {a : Access} {s t : State} {c m : Nat} {i : Instr} {o : Operands}
    (hbusy : s.contextBusy a = false) (hw : (s.ctx c).cstate = .waitLut m i o) (h : performAccess a s = .next t) :
    t.ctx c = s.ctx c := by
  refine performAccess_ctx_other h fun hpage => ?_
  cases (ready_of_not_contextBusy hbusy (admitted_of_performAccess_next h) hpage).symm.trans hw

/-- y is x unchanged, or x after a command of its own is done: what a step may do to a waiting context. -/
def WaitKeptOrDone (x y : Context) : Prop :=
  y.operands = x.operands ∧ y.errIll = x.errIll ∧ y.errcmd = x.errcmd ∧ (y.cstate = .ready ∨ y = x)

theorem WaitKeptOrDone.of_eq {x y : Context} (h : y = x) : WaitKeptOrDone x y := by
  subst h
  exact ⟨rfl, rfl, rfl, .inr rfl⟩

theorem CommandDone.waitKeptOrDone {s t : State} (h : CommandDone s t) : WaitKeptOrDone s.cur t.cur :=
  ⟨by simp [Context.operands, h.frame.a, h.frame.b, h.frame.k0, h.frame.k1], h.errIll, h.errcmd, .inl h.cstate⟩

/-- A waiting command that goes on is done in its own context and leaves the others. -/
theorem resumeCommand_waitKeptOrDone {s t : State} {c m : Nat} {i : Instr} (hinv : PxaInv s)
    (hres : s.resumable = some (c, m, i)) (h : resumeCommand c m i s = .next t) (d : Nat) :
    WaitKeptOrDone (s.ctx d) (t.ctx d) := by
  have hdone := resumeCommand_done hinv hres h
  by_cases hd : d = c
  · have hcur : t.cur = t.ctx d := by rw [State.cur, hdone.frame.issue, State.withIssue_issue, hd]
    subst hd
    exact hcur ▸ hdone.waitKeptOrDone
  · exact .of_eq (hdone.frame.others d hd)

/-- Settles O56: only the context's own command going on changes it, and no access taken addresses it. -/
theorem busyContextIsLeftAlone : Obligations.BusyContextIsLeftAlone := by
  unfold Obligations.BusyContextIsLeftAlone
  intro s t c m i o hinv hw hreset hstep
  change WaitKeptOrDone (s.ctx c) (t.ctx c)
  rcases step_cases s with ⟨rest, hp, -⟩ | ⟨c', m', i', -, hres, hs⟩ | ⟨a, rest, htake, hs⟩ | ⟨-, -, hs⟩
  · exact absurd hp (hreset rest)
  · rw [← s.ctx_sequencerCycle c]
    exact resumeCommand_waitKeptOrDone hinv.sequencerCycle hres (hs.symm.trans hstep) c
  · have hbusy : (s.sequencerCycle.withInputs rest).contextBusy a = false := by
      rw [State.contextBusy_congr (s := s) (by simp), State.contextBusy_of_pick htake.1]
    have hctx : (s.sequencerCycle.withInputs rest).ctx c = s.ctx c := s.ctx_sequencerCycle c
    rw [← hctx] at hw ⊢
    exact .of_eq (performAccess_ctx_waiting hbusy hw (hs.symm.trans hstep))
  · obtain rfl := Host.Outcome.next.inj (hs.symm.trans hstep)
    exact .of_eq (s.ctx_sequencerCycle c)

/-! ### A command's result (20_memory.md R74, R80) -/

/-- No command has to wait for the LUT store or lacks its provider. -/
def State.Equipped (s : State) : Prop := s.lstate = .valid ∧ s.lut = LutStore.tables ∧ s.gammaPresent = true

/-- Every command but NOP writes R with one function of the snapshot, the same for all states. -/
theorem exists_result {i : Instr} (hi : i ≠ .nop) :
    ∃ g : Operands → Lanes, Completes i State.Equipped fun o r => r = g o := by
  rcases exec_shape i with ⟨hnop, -⟩ | ⟨f, he⟩ | ⟨-, he⟩ | ⟨-, f, he⟩
  · exact absurd hnop hi
  · exact ⟨f, Completes.of_compute he fun _ => rfl⟩
  · refine ⟨lutResult i LutStore.tables, fun s hs ⟨hvalid, hlut, _⟩ => ?_⟩
    rw [he, ← hlut]
    exact computeLut_done i (lutResult i) s hs hvalid
  · refine ⟨f Config.gamma, fun s hs ⟨_, _, hgamma⟩ => ?_⟩
    rw [he]
    exact computeGamma_done f s hs hgamma

/-- Where a command completes with a function of the snapshot, that is what the state it answers holds. -/
theorem Completes.result_eq {i : Instr} {pre : State → Prop} {g : Operands → Lanes} {s t : State}
    (h : Completes i pre fun o r => r = g o) (hs : s.accepts) (hpre : pre s) (he : exec i s = .next t) :
    t.cur.r = g s.cur.operands := by
  obtain ⟨u, hu, -, hr⟩ := h s hs hpre
  cases hu.symm.trans he
  exact hr

/-- Settles O21: both results are `exists_result`'s function of the same snapshot. -/
theorem resultIsOfSnapshot : Obligations.ResultIsOfSnapshot := by
  unfold Obligations.ResultIsOfSnapshot
  intro i s s' t t' hi hs hs' hops hvalid hvalid' hlut hlut' hgamma hgamma' he he'
  obtain ⟨g, hg⟩ := exists_result hi
  calc t.cur.r = g s.cur.operands := hg.result_eq hs ⟨hvalid, hlut, hgamma⟩ he
    _ = g s'.cur.operands := by rw [hops]
    _ = t'.cur.r := (hg.result_eq hs' ⟨hvalid', hlut', hgamma'⟩ he').symm

end Sys2Proof.Machine

/-! SUPPORT. The encoding of commands (30_encoding.md R101-R111): the numbers of the fields both ways, a word and its fields,
and from these that decoding and encoding agree. -/

namespace Sys2Proof.Machine

/-! ### The numbers of OP, FMT and SHAPE (30_encoding.md R102, R103, R104) -/

theorem opOfBits_eq_some_iff (b : BitVec 6) (o : Op) : opOfBits b = some o ↔ b = opBits o := by
  constructor
  · intro h
    unfold opOfBits at h
    split at h <;> cases h <;> exact BitVec.eq_of_toNat_eq ‹_›
  · rintro rfl
    cases o <;> rfl

theorem fmtOfBits_eq_some_iff (b : BitVec 2) (f : Fmt) : fmtOfBits b = some f ↔ b = fmtBits f := by
  constructor
  · intro h
    unfold fmtOfBits at h
    split at h <;> cases h <;> exact BitVec.eq_of_toNat_eq ‹_›
  · rintro rfl
    cases f <;> rfl

/-- Every SHAPE number is used, so the two tables are inverse to each other. -/
@[simp] theorem shapeBits_shapeOfBits : ∀ b : BitVec 2, shapeBits (shapeOfBits b) = b := by decide

@[simp] theorem shapeOfBits_shapeBits (sh : Shape) : shapeOfBits (shapeBits sh) = sh := by cases sh <;> rfl

/-! ### The rows of commands (30_encoding.md R104) -/

theorem instrOf_opFmtShape (i : Instr) :
    instrOf (opFmtShape i).1 (opFmtShape i).2.1 (opFmtShape i).2.2 = some i := by
  cases i <;> rfl

theorem instrOf_eq_some_iff (o : Op) (f : Fmt) (sh : Shape) (i : Instr) :
    instrOf o f sh = some i ↔ opFmtShape i = (o, f, sh) := by
  constructor
  · exact opFmtShape_of_instrOf
  · intro h
    have hi := instrOf_opFmtShape i
    rwa [h] at hi

/-! ### A word and its fields (30_encoding.md R101) -/

/-- The four fields of a word are adjacent and cover its 32 bits. -/
@[simp] theorem wordOfFields_fieldsOf (w : Word) : wordOfFields (fieldsOf w) = w := by
  simp only [wordOfFields, fieldsOf]
  rw [BitVec.extractLsb'_append_extractLsb'_eq_extractLsb' (by rfl),
    BitVec.extractLsb'_append_extractLsb'_eq_extractLsb' (by rfl),
    BitVec.extractLsb'_append_extractLsb'_eq_extractLsb' (by rfl)]
  exact BitVec.extractLsb'_eq_self

/-- Each field of a word put together from fields is read back: what lies below it is skipped, then it is the low end. -/
@[simp] theorem fieldsOf_wordOfFields (f : Fields) : fieldsOf (wordOfFields f) = f := by
  obtain ⟨op, fmt, shape, rsvd⟩ := f
  have hop : (rsvd ++ shape ++ fmt ++ op).extractLsb' 0 6 = op := BitVec.extractLsb'_append_eq_right
  have hfmt : (rsvd ++ shape ++ fmt ++ op).extractLsb' 6 2 = fmt := by
    rw [BitVec.extractLsb'_append_eq_of_le (by decide)]
    exact BitVec.extractLsb'_append_eq_right
  have hshape : (rsvd ++ shape ++ fmt ++ op).extractLsb' 8 2 = shape := by
    rw [BitVec.extractLsb'_append_eq_of_le (by decide), BitVec.extractLsb'_append_eq_of_le (by decide)]
    exact BitVec.extractLsb'_append_eq_right
  have hrsvd : (rsvd ++ shape ++ fmt ++ op).extractLsb' 10 22 = rsvd := by
    rw [BitVec.extractLsb'_append_eq_of_le (by decide), BitVec.extractLsb'_append_eq_of_le (by decide)]
    exact BitVec.extractLsb'_append_eq_left
  exact (Fields.mk.injEq ..).mpr ⟨hop, hfmt, hshape, hrsvd⟩

theorem fieldsOf_eq_fieldsOfInstr_iff (w : Word) (i : Instr) : fieldsOf w = fieldsOfInstr i ↔ w = encode i := by
  constructor
  · intro h
    rw [encode, ← h, wordOfFields_fieldsOf]
  · rintro rfl
    exact fieldsOf_wordOfFields _

/-! ### Decoding and encoding agree -/

theorem decode_eq_instr_iff_fieldsOf (w : Word) (i : Instr) : decode w = .instr i ↔ fieldsOf w = fieldsOfInstr i := by
  simp only [decode_eq_instr_iff, opOfBits_eq_some_iff, fmtOfBits_eq_some_iff, instrOf_eq_some_iff]
  constructor
  · rintro ⟨hrsvd, o, fm, hop, hfmt, hi⟩
    calc fieldsOf w = ⟨(fieldsOf w).op, (fieldsOf w).fmt, (fieldsOf w).shape, (fieldsOf w).rsvd⟩ := rfl
      _ = fieldsOfInstr i := by rw [fieldsOfInstr, hi, shapeBits_shapeOfBits, hrsvd, hop, hfmt]
  · intro h
    rw [h]
    exact ⟨rfl, _, _, rfl, rfl, by rw [fieldsOfInstr, shapeOfBits_shapeBits]⟩

/-- Settles O18: both sides say that the fields of the word are the command's. -/
theorem decodeIffEncode : Obligations.DecodeIffEncode := by
  unfold Obligations.DecodeIffEncode
  intro w i
  calc decode w = .instr i ↔ fieldsOf w = fieldsOfInstr i := decode_eq_instr_iff_fieldsOf w i
    _ ↔ w = encode i := fieldsOf_eq_fieldsOfInstr_iff w i

/-- Settles O19: `decode_of_wellFormed` one way, `wellFormed_of_decode_instr` with and without a provider the other. -/
theorem decodesIffLegal : Obligations.DecodesIffLegal := by
  unfold Obligations.DecodesIffLegal
  refine ⟨fun w => ⟨?_, decode_of_wellFormed⟩, fun w i => wellFormed_of_decode_instr false⟩
  rintro ⟨i, hi⟩
  exact wellFormed_of_decode_instr true hi

theorem decode_of_eq_encode {w : Word} {i : Instr} (h : w = encode i) : decode w = .instr i :=
  (decodeIffEncode w i).2 h

/-- Settles O17: each legal word is its command's encoding; R104's NOP row has no FMT U16. -/
theorem decodeOfWords : Obligations.DecodeOfWords := by
  unfold Obligations.DecodeOfWords
  exact ⟨decode_of_eq_encode rfl, decode_of_eq_encode rfl, decode_of_eq_encode rfl, decode_of_eq_encode rfl,
    decode_of_eq_encode rfl, decode_of_eq_encode rfl, decode_of_eq_encode rfl, decode_of_eq_encode rfl, by decide⟩

end Sys2Proof.Machine

/-! SUPPORT. The scalar kernels of 40_kernels.md R130-R144. The two shifts of R130 and R131 give the integer nearest to a
quotient by max_W; from this one fact follow the laws of R135 and the integer results of MUL, LERP, PRELERP and MULCOV. The
binary32 kernels follow, with a bound on every intermediate value. -/

namespace Sys2Proof.Machine

/-! ### The integer nearest to y/M -/

/-- k is the integer nearest to y/M, and no tie. -/
def NearestQuot (M y k : Int) : Prop := 2 * |M * k - y| < M

theorem nearestQuot_iff {M y k : Int} : NearestQuot M y k ↔ 2 * (M * k) < 2 * y + M ∧ 2 * y < 2 * (M * k) + M := by
  rw [NearestQuot]
  constructor <;> rcases abs_cases (M * k - y) with h | h <;> omega

theorem NearestQuot.pos {M y k : Int} (h : NearestQuot M y k) : 0 < M := by
  rw [nearestQuot_iff] at h
  omega

theorem NearestQuot.mono {M y y' k k' : Int} (h : NearestQuot M y k) (h' : NearestQuot M y' k') (hy : y ≤ y') : k ≤ k' := by
  have hM := h.pos
  rw [nearestQuot_iff] at h h'
  have hlt : M * k < M * (k' + 1) := by rw [mul_add]; omega
  exact Int.lt_add_one_iff.1 (lt_of_mul_lt_mul_left hlt hM.le)

theorem NearestQuot.unique {M y k k' : Int} (h : NearestQuot M y k) (h' : NearestQuot M y k') : k = k' :=
  le_antisymm (h.mono h' le_rfl) (h'.mono h le_rfl)

theorem nearestQuot_mul_self {M : Int} (hM : 0 < M) (k : Int) : NearestQuot M (M * k) k := by
  rw [nearestQuot_iff]
  omega

/-- Between the quotients i and j lies the nearest integer. -/
theorem NearestQuot.between {M y k i j : Int} (h : NearestQuot M y k) (hi : M * i ≤ y) (hj : y ≤ M * j) :
    i ≤ k ∧ k ≤ j :=
  ⟨(nearestQuot_mul_self h.pos i).mono h hi, h.mono (nearestQuot_mul_self h.pos j) hj⟩

/-- An odd divisor has no ties, so there is a nearest integer. -/
theorem exists_nearestQuot {h : Int} (hh : 0 < h) (y : Int) : ∃ k, NearestQuot (2 * h - 1) y k := by
  refine ⟨(y + h - 1) / (2 * h - 1), nearestQuot_iff.2 ?_⟩
  have hdiv := Int.mul_ediv_add_emod (y + h - 1) (2 * h - 1)
  have hlow := Int.emod_nonneg (y + h - 1) (show 2 * h - 1 ≠ 0 by omega)
  have hhigh := Int.emod_lt_of_pos (y + h - 1) (show 0 < 2 * h - 1 by omega)
  omega

/-! ### The two shifts of R130 and R131 -/

/-- `((t >> W) + t) >> W`, as mul_W and lerp_W end. -/
def foldShift (W : Nat) (t : Int) : Int := ((t >>> W) + t) >>> W

theorem foldShift_eq (W : Nat) (t : Int) : foldShift W t = (t / 2 ^ W + t) / 2 ^ W := by
  simp only [foldShift, Int.shiftRight_eq_div_pow, Nat.cast_pow, Nat.cast_ofNat]

theorem mul_add_ediv_eq {N k e j : Int} (hlow : N * j ≤ e) (hhigh : e < N * j + N) : (N * k + e) / N = k + j := by
  rw [show N * k + e = N * (k + j) + (e - N * j) by ring, Int.mul_add_ediv_left _ _ (by omega),
    Int.ediv_eq_zero_of_lt (by omega) (by omega), add_zero]

/-- The first quotient, k + j, added before the second division leaves the quotient k if the remainder stays below N. -/
theorem ediv_add_ediv_eq {N k e : Int} (j : Int) (hlow : N * j ≤ e) (hhigh : e < N * j + N) (hlow' : 0 ≤ e + (k + j))
    (hhigh' : e + (k + j) < N) : ((N * k + e) / N + (N * k + e)) / N = k := by
  rw [mul_add_ediv_eq hlow hhigh, show k + j + (N * k + e) = N * k + (e + (k + j)) by ring,
    mul_add_ediv_eq (j := 0) (by omega) (by omega), add_zero]

/-- With N = 2h the two divisions by N give the nearest quotient by N - 1. The first quotient is that nearest one or its
neighbour towards 0; the correction `c` for negative quotients, which R131 makes, keeps the sum from reaching the next. -/
theorem foldQuot_eq_nearest {h y k c : Int} (hk : NearestQuot (2 * h - 1) y k) (hlow : -(2 * h - 1) ≤ k)
    (hhigh : k ≤ 2 * h - 1) (hc : c = 0 ∧ 0 ≤ k ∨ c = 1 ∧ k ≤ 0) :
    ((y + h - c) / (2 * h) + (y + h - c)) / (2 * h) = k := by
  obtain ⟨d, rfl⟩ : ∃ d, y = (2 * h - 1) * k + d := ⟨y - (2 * h - 1) * k, by ring⟩
  obtain ⟨hd, hd'⟩ : -h < d ∧ d < h := by rw [nearestQuot_iff] at hk; omega
  rw [show (2 * h - 1) * k + d + h - c = 2 * h * k + (d + h - c - k) by ring]
  rcases hc with ⟨rfl, hk0⟩ | ⟨rfl, hk0⟩
  · by_cases hborrow : 0 ≤ d + h - 0 - k
    · exact ediv_add_ediv_eq 0 (by omega) (by omega) (by omega) (by omega)
    · exact ediv_add_ediv_eq (-1) (by omega) (by omega) (by omega) (by omega)
  · by_cases hcarry : d + h - 1 - k < 2 * h
    · exact ediv_add_ediv_eq 0 (by omega) (by omega) (by omega) (by omega)
    · exact ediv_add_ediv_eq 1 (by omega) (by omega) (by omega) (by omega)

/-! ### max_W and half_W (00_scope.md R6) -/

theorem halfW_pos (W : Nat) : (0 : Int) < halfW W := by
  exact_mod_cast Nat.two_pow_pos (W - 1)

theorem two_pow_eq_two_mul_halfW {W : Nat} (hW : 0 < W) : (2 : Int) ^ W = 2 * halfW W := by
  rw [halfW, Nat.cast_pow, Nat.cast_ofNat, ← pow_succ', Nat.sub_add_cancel hW]

theorem maxW_cast (W : Nat) : (maxW W : Int) = 2 ^ W - 1 := by
  rw [maxW, Nat.cast_sub Nat.one_le_two_pow, Nat.cast_pow, Nat.cast_ofNat, Nat.cast_one]

/-- max_W is odd, so a quotient by it is never halfway between two integers. -/
theorem maxW_eq_two_mul_halfW_sub_one {W : Nat} (hW : 0 < W) : (maxW W : Int) = 2 * halfW W - 1 := by
  rw [maxW_cast, two_pow_eq_two_mul_halfW hW]

theorem maxW_pos {W : Nat} (hW : 0 < W) : (0 : Int) < maxW W := by
  have := halfW_pos W
  rw [maxW_eq_two_mul_halfW_sub_one hW]
  omega

/-- The two integer channel widths (00_scope.md R6). -/
theorem pos_of_mem_widths {W : Nat} (hW : W ∈ [8, 16]) : 0 < W := by
  simp only [List.mem_cons, List.not_mem_nil, or_false] at hW
  omega

/-! ### lerp_W (R131, R135) -/

theorem nearestLerp_iff {W p q a r : Nat} :
    NearestLerp W p q a r ↔ NearestQuot (maxW W) (((q : Int) - p) * a) ((r : Int) - p) := by
  rw [NearestLerp, ← maxW_cast, NearestQuot]

/-- The nearest quotient of (q - p)·a lies between 0 and q - p. -/
theorem NearestQuot.between_zero_and_diff {M p q a k : Int} (hk : NearestQuot M ((q - p) * a) k) (ha : 0 ≤ a)
    (haM : a ≤ M) : (p ≤ q → 0 ≤ k ∧ k ≤ q - p) ∧ (q ≤ p → q - p ≤ k ∧ k ≤ 0) := by
  constructor <;> intro hpq
  · exact hk.between (by nlinarith) (by nlinarith)
  · exact hk.between (by nlinarith) (by nlinarith)

section Lerp

variable {W : Nat} (hW : 0 < W) {p q a : Nat} (hp : p ≤ maxW W) (hq : q ≤ maxW W) (ha : a ≤ maxW W)
include hW hp hq ha

/-- R135 (d): the shifts of R131 add to p the integer nearest to (q - p)·a/max_W. -/
theorem nearestQuot_lerpInt : NearestQuot (maxW W) (((q : Int) - p) * a) (lerpInt W p q a - p) := by
  have hM := maxW_eq_two_mul_halfW_sub_one hW
  obtain ⟨k, hk⟩ := exists_nearestQuot (halfW_pos W) (((q : Int) - p) * a)
  rw [← hM] at hk
  obtain ⟨hup, hdown⟩ := hk.between_zero_and_diff (by omega) (by omega)
  have hfold : lerpInt W p q a = p + k := by
    rw [hM] at hk
    rw [lerpInt, ← foldShift, foldShift_eq, two_pow_eq_two_mul_halfW hW,
      foldQuot_eq_nearest hk (by omega) (by omega) (by split_ifs <;> omega)]
  rwa [hfold, add_sub_cancel_left]

/-- R135 (c), on the integers. -/
theorem lerpInt_between : (min p q : Int) ≤ lerpInt W p q a ∧ lerpInt W p q a ≤ max p q := by
  obtain ⟨hup, hdown⟩ := (nearestQuot_lerpInt hW hp hq ha).between_zero_and_diff (by omega) (by omega)
  omega

/-- lerp_W is never negative, so the channel value is the integer (R135 (c)). -/
theorem lerpW_cast : (lerpW W p q a : Int) = lerpInt W p q a := by
  have hbetween := lerpInt_between hW hp hq ha
  exact Int.toNat_of_nonneg (by omega)

theorem nearestLerp_lerpW : NearestLerp W p q a (lerpW W p q a) := by
  rw [nearestLerp_iff, lerpW_cast hW hp hq ha]
  exact nearestQuot_lerpInt hW hp hq ha

theorem lerpW_between : min p q ≤ lerpW W p q a ∧ lerpW W p q a ≤ max p q := by
  have hbetween := lerpInt_between hW hp hq ha
  rw [← lerpW_cast hW hp hq ha] at hbetween
  omega

theorem lerpW_eq_of_nearestLerp {r : Nat} (hr : NearestLerp W p q a r) : lerpW W p q a = r := by
  have hsub := (nearestLerp_iff.1 (nearestLerp_lerpW hW hp hq ha)).unique (nearestLerp_iff.1 hr)
  omega

end Lerp

theorem nearestLerp_zero {W : Nat} (hW : 0 < W) (p q : Nat) : NearestLerp W p q 0 p := by
  simpa [nearestLerp_iff] using nearestQuot_mul_self (maxW_pos hW) 0

/-- Going from p to q by a is going from q to p by max_W - a. -/
theorem nearestLerp_swap {W p q a r : Nat} (ha : a ≤ maxW W) :
    NearestLerp W q p (maxW W - a) r ↔ NearestLerp W p q a r := by
  have hsame : (maxW W : Int) * (r - q) - (p - q) * (maxW W - a) = maxW W * (r - p) - (q - p) * a := by ring
  rw [nearestLerp_iff, nearestLerp_iff, Nat.cast_sub ha, NearestQuot, NearestQuot, hsame]

theorem nearestLerp_maxW {W : Nat} (hW : 0 < W) (p q : Nat) : NearestLerp W p q (maxW W) q := by
  rw [← nearestLerp_swap le_rfl, Nat.sub_self]
  exact nearestLerp_zero hW q p

/-! ### mul_W (R130, R135) -/

/-- mul_W(a, b) is lerp_W(0, a, b): R131 is R130 from p = 0, where nothing is negative. -/
theorem mulW_eq_lerpW (W a b : Nat) : mulW W a b = lerpW W 0 a b := by
  have hneg : ¬ (a : Int) < 0 := by omega
  rw [lerpW, lerpInt, Nat.cast_zero, if_neg hneg, sub_zero, sub_zero, zero_add, mulW]
  exact (Int.toNat_natCast _).symm

theorem mulW_comm (W a b : Nat) : mulW W a b = mulW W b a := by
  rw [mulW, mulW, Nat.mul_comm]

/-- a·b/max_W has no ties, so its rounding half up is the nearest integer. -/
theorem nearestLerp_roundedProduct {W : Nat} (hW : 0 < W) (a b : Nat) : NearestLerp W 0 a b (roundedProduct W a b) := by
  have hodd := maxW_eq_two_mul_halfW_sub_one hW
  have hpos := maxW_pos hW
  have hdiv := Nat.mod_add_div (2 * a * b + maxW W) (2 * maxW W)
  have hmod := Nat.mod_lt (2 * a * b + maxW W) (show 0 < 2 * maxW W by omega)
  rw [roundedProduct, ← maxW, nearestLerp_iff, nearestQuot_iff]
  generalize (2 * a * b + maxW W) / (2 * maxW W) = r at *
  generalize (2 * a * b + maxW W) % (2 * maxW W) = e at *
  zify at hdiv
  rw [mul_assoc, mul_assoc] at hdiv
  rw [Nat.cast_zero, sub_zero, sub_zero]
  omega

section Mul

variable {W : Nat} (hW : 0 < W) {a b : Nat} (ha : a ≤ maxW W) (hb : b ≤ maxW W)
include hW ha hb

/-- R135 (b). -/
theorem mulW_eq_roundedProduct : mulW W a b = roundedProduct W a b := by
  rw [mulW_eq_lerpW]
  exact lerpW_eq_of_nearestLerp hW (Nat.zero_le _) ha hb (nearestLerp_roundedProduct hW a b)

theorem mulW_le_left : mulW W a b ≤ a := by
  rw [mulW_eq_lerpW]
  simpa using (lerpW_between hW (Nat.zero_le _) ha hb).2

theorem mulW_mono_left {a' : Nat} (ha' : a' ≤ maxW W) (haa : a ≤ a') : mulW W a b ≤ mulW W a' b := by
  have hnear := nearestLerp_iff.1 (nearestLerp_lerpW hW (Nat.zero_le _) ha hb)
  have hnear' := nearestLerp_iff.1 (nearestLerp_lerpW hW (Nat.zero_le _) ha' hb)
  have hle := hnear.mono hnear' (by gcongr)
  rw [mulW_eq_lerpW, mulW_eq_lerpW]
  omega

end Mul

/-- Settles O24: the laws of lerp_W from 0, which mul_W is. -/
theorem mulKernelLaws : Obligations.MulKernelLaws := by
  unfold Obligations.MulKernelLaws
  intro W hmem a a' b ha ha' hb
  have hW := pos_of_mem_widths hmem
  refine ⟨mulW_comm W a b, ?_, ?_, mulW_mono_left hW ha hb ha', le_min (mulW_le_left hW ha hb) ?_,
    mulW_eq_roundedProduct hW ha hb⟩
  · exact Nat.le_zero.1 (mulW_comm W a 0 ▸ mulW_le_left hW (Nat.zero_le _) ha)
  · rw [mulW_eq_lerpW]
    exact lerpW_eq_of_nearestLerp hW (Nat.zero_le _) ha le_rfl (nearestLerp_maxW hW 0 a)
  · exact mulW_comm W a b ▸ mulW_le_left hW hb ha

/-- Settles O26: the endpoints and the symmetry by uniqueness of the nearest integer, the bounds by `lerpW_between`. -/
theorem lerpKernelLaws : Obligations.LerpKernelLaws := by
  unfold Obligations.LerpKernelLaws
  intro W hmem p q a hp hq ha
  have hW := pos_of_mem_widths hmem
  obtain ⟨hlow, hhigh⟩ := lerpW_between hW hp hq ha
  refine ⟨lerpW_eq_of_nearestLerp hW hp hq (Nat.zero_le _) (nearestLerp_zero hW p q),
    lerpW_eq_of_nearestLerp hW hp hq le_rfl (nearestLerp_maxW hW p q), hlow, hhigh, ?_, (lerpW_cast hW hp hq ha).symm⟩
  exact lerpW_eq_of_nearestLerp hW hp hq ha
    ((nearestLerp_swap ha).1 (nearestLerp_lerpW hW hq hp (Nat.sub_le _ _)))

/-! ### The commands on integer lanes (R137, R139, R141, R143) -/

theorem lin_le_maxW (W : Nat) (x : Word) : lin W x ≤ maxW W :=
  Nat.le_sub_one_of_lt (Nat.mod_lt _ (Nat.two_pow_pos W))

/-- A channel value fits a lane. -/
theorem out_toNat_of_le_maxW {W v : Nat} (hW : W ∈ [8, 16]) (hv : v ≤ maxW W) : (out v).toNat = v := by
  refine out_toNat v (hv.trans_lt ?_)
  simp only [List.mem_cons, List.not_mem_nil, or_false] at hW
  rcases hW with rfl | rfl <;> decide

theorem chan_le_maxW (W : Nat) (l : Lanes) (j : LaneIx) : chan W l j ≤ maxW W := lin_le_maxW W (Lanes.get l j)

theorem get_mulInt (W : Nat) (o : Operands) (j : LaneIx) :
    Lanes.get (mulInt W o) j = out (mulW W (chan W o.a j) (chan W o.b j)) := get_lanewise _ o j

theorem get_lerpIntLanes (W : Nat) (o : Operands) (j : LaneIx) :
    Lanes.get (lerpIntLanes W o) j = out (lerpW W (chan W o.a j) (chan W o.b j) (kFrac W o)) := get_lanewise _ o j

theorem get_prelerpInt (W : Nat) (o : Operands) (j : LaneIx) :
    Lanes.get (prelerpInt W o) j = out (prelerpW W (chan W o.a j) (chan W o.b j) (kFrac W o)) := get_lanewise _ o j

theorem get_mulcovInt (W : Nat) (o : Operands) (j : LaneIx) :
    Lanes.get (mulcovInt W o) j = out (mulW W (chan W o.a j) (covW W (kCover o))) := get_lanewise _ o j

section IntLanes

variable {W : Nat} (hW : W ∈ [8, 16]) (o : Operands)
include hW

/-- A product in a lane is the rounded one: it fits the channel, so `Out` keeps it. -/
theorem out_mulW_toNat {a b : Nat} (ha : a ≤ maxW W) (hb : b ≤ maxW W) :
    (out (mulW W a b)).toNat = roundedProduct W a b := by
  have hle := mulW_le_left (pos_of_mem_widths hW) ha hb
  rw [out_toNat_of_le_maxW hW (hle.trans ha), mulW_eq_roundedProduct (pos_of_mem_widths hW) ha hb]

theorem lanesAre_mulInt :
    LanesAre (mulInt W o) fun j => roundedProduct W (chan W o.a j) (chan W o.b j) := by
  intro j
  rw [get_mulInt]
  exact out_mulW_toNat hW (chan_le_maxW W o.a j) (chan_le_maxW W o.b j)

theorem nearestLerp_lerpIntLanes (j : LaneIx) :
    NearestLerp W (chan W o.a j) (chan W o.b j) (kFrac W o) (Lanes.get (lerpIntLanes W o) j).toNat := by
  have hp := chan_le_maxW W o.a j
  have hq := chan_le_maxW W o.b j
  have ha := lin_le_maxW W o.k0
  have hle := (lerpW_between (pos_of_mem_widths hW) hp hq ha).2.trans (max_le hp hq)
  rw [get_lerpIntLanes, kFrac, out_toNat_of_le_maxW hW hle]
  exact nearestLerp_lerpW (pos_of_mem_widths hW) hp hq ha

/-- R132: mul_W(p, a) ≤ p, so the sum is never negative and the model's subtraction of naturals is exact. -/
theorem prelerpW_cast {p q a : Nat} (hp : p ≤ maxW W) (ha : a ≤ maxW W) :
    (prelerpW W p q a : Int) = min ((p : Int) + q - roundedProduct W p a) (2 ^ W - 1) := by
  have hle := mulW_le_left (pos_of_mem_widths hW) hp ha
  rw [prelerpW, ← maxW_cast, ← mulW_eq_roundedProduct (pos_of_mem_widths hW) hp ha]
  omega

theorem prelerpInt_toNat (j : LaneIx) : ((Lanes.get (prelerpInt W o) j).toNat : Int) =
    min ((chan W o.a j : Int) + chan W o.b j - roundedProduct W (chan W o.a j) (kFrac W o)) (2 ^ W - 1) := by
  have hle : prelerpW W (chan W o.a j) (chan W o.b j) (kFrac W o) ≤ maxW W := min_le_right _ _
  rw [get_prelerpInt, out_toNat_of_le_maxW hW hle]
  exact prelerpW_cast hW (chan_le_maxW W o.a j) (lin_le_maxW W o.k0)

/-- The coverage in the channel domain is a channel value (R133). -/
theorem covW_le_maxW {cover : Nat} (hc : cover ≤ maxW 8) : covW W cover ≤ maxW W := by
  simp only [List.mem_cons, List.not_mem_nil, or_false] at hW
  rcases hW with rfl | rfl
  · exact hc
  · exact Nat.mul_le_mul_right 257 hc

theorem lanesAre_mulcovInt :
    LanesAre (mulcovInt W o) fun j => roundedProduct W (chan W o.a j) (covW W (kCover o)) := by
  intro j
  rw [get_mulcovInt]
  exact out_mulW_toNat hW (chan_le_maxW W o.a j) (covW_le_maxW hW (lin_le_maxW 8 o.k0))

end IntLanes

/-- Settles O23: `lanesAre_mulInt` at both widths. -/
theorem mulIntRoundsHalfUp : Obligations.MulIntRoundsHalfUp := by
  unfold Obligations.MulIntRoundsHalfUp
  exact ⟨Completes.of_compute (fun _ => rfl) (lanesAre_mulInt (W := 8) (by decide)),
    Completes.of_compute (fun _ => rfl) (lanesAre_mulInt (W := 16) (by decide))⟩

/-- Settles O25: `nearestLerp_lerpIntLanes` at both widths. -/
theorem lerpIntIsNearest : Obligations.LerpIntIsNearest := by
  unfold Obligations.LerpIntIsNearest
  exact ⟨Completes.of_compute (fun _ => rfl) (nearestLerp_lerpIntLanes (W := 8) (by decide)),
    Completes.of_compute (fun _ => rfl) (nearestLerp_lerpIntLanes (W := 16) (by decide))⟩

/-- Settles O27: `prelerpInt_toNat` at both widths. -/
theorem prelerpIntSaturates : Obligations.PrelerpIntSaturates := by
  unfold Obligations.PrelerpIntSaturates
  exact ⟨Completes.of_compute (fun _ => rfl) (prelerpInt_toNat (W := 8) (by decide)),
    Completes.of_compute (fun _ => rfl) (prelerpInt_toNat (W := 16) (by decide))⟩

/-- Settles O28: `lanesAre_mulcovInt` at both widths, where cov_8 is the coverage and cov_16 the coverage times 257. -/
theorem mulcovIntScales : Obligations.MulcovIntScales := by
  unfold Obligations.MulcovIntScales
  exact ⟨Completes.of_compute (fun _ => rfl) (lanesAre_mulcovInt (W := 8) (by decide)),
    Completes.of_compute (fun _ => rfl) (lanesAre_mulcovInt (W := 16) (by decide))⟩

/-! ### NOP and the commands on binary32 lanes (R136, R138, R140, R142, R144) -/

/-- Settles O22: NOP answers its CMD write and nothing else. -/
theorem nopChangesNothing : Obligations.NopChangesNothing := by
  unfold Obligations.NopChangesNothing
  refine ⟨by decide, fun s hs => ⟨s.completeWrite, rfl, ?_, s.cur_completeWrite, rfl⟩⟩
  exact ⟨(CommandFrame.refl s).respond _, rfl, rfl, hs.2, rfl, rfl, rfl⟩

/-- Settles O29: each command computes its lanes with R134's function of them. -/
theorem scalarF32Complete : Obligations.ScalarF32Complete := by
  unfold Obligations.ScalarF32Complete
  exact ⟨Completes.of_compute (f := mulF32) (fun _ => rfl) fun o j => get_lanewise _ o j,
    Completes.of_compute (f := lerpF32) (fun _ => rfl) fun o j => get_lanewise _ o j,
    Completes.of_compute (f := prelerpF32) (fun _ => rfl) fun o j => get_lanewise _ o j,
    Completes.of_compute (f := mulcovF32) (fun _ => rfl) fun o j => get_lanewise _ o j⟩

/-! ### The binary32 kernels stay finite on inputs up to 1 (R134) -/

/-- x is finite and at most 2^e units in magnitude. -/
def FinUpTo (e : Nat) (x : FVal) : Prop := ∃ n m, x = .fin n m ∧ m ≤ 2 ^ e

theorem FinUpTo.finite {e : Nat} {x : FVal} (h : FinUpTo e x) : ∃ n m, x = .fin n m := by
  obtain ⟨n, m, hx, -⟩ := h
  exact ⟨n, m, hx⟩

theorem FinUpTo.mono {e e' : Nat} {x : FVal} (h : FinUpTo e x) (he : e ≤ e') : FinUpTo e' x := by
  obtain ⟨n, m, hx, hm⟩ := h
  exact ⟨n, m, hx, hm.trans (Nat.pow_le_pow_right two_pos he)⟩

theorem FinUpTo.fneg {e : Nat} {x : FVal} (h : FinUpTo e x) : FinUpTo e (fneg x) := by
  obtain ⟨n, m, rfl, hm⟩ := h
  exact ⟨!n, m, rfl, hm⟩

theorem representable_two_pow (f : FloatFmt) (e : Nat) : Representable f (2 ^ e) :=
  ⟨1, e, Nat.one_lt_two_pow (Nat.succ_ne_zero _), (Nat.one_mul _).symm⟩

/-- Rounding does not go beyond a representable bound: the bound would be nearer. -/
theorem roundMag_le_of_representable {f : FloatFmt} {num den B : Nat} (hden : 0 < den) (hB : Representable f B)
    (hnum : num ≤ B * den) : roundMag f num den ≤ B := by
  have hnear := (roundMag_nearest f num hden hB).1
  by_contra hlt
  have hmul : B * den < roundMag f num den * den := Nat.mul_lt_mul_of_pos_right (Nat.not_le.1 hlt) hden
  zify at hnum hmul
  rw [abs_of_nonneg (by omega), abs_of_nonneg (by omega)] at hnear
  omega

theorem finUpTo_roundReal {f : FloatFmt} {num den e : Nat} (neg : Bool) (hden : 0 < den) (he : 2 ^ e < overflowMag f)
    (hnum : num ≤ 2 ^ e * den) : FinUpTo e (roundReal f neg num den) := by
  have hle := roundMag_le_of_representable hden (representable_two_pow f e) hnum
  exact ⟨neg, _, roundReal_of_lt neg (hle.trans_lt he), hle⟩

theorem FinUpTo.fmul {f : FloatFmt} {i j : Nat} {x y : FVal} (hx : FinUpTo (f.unitExp + i) x)
    (hy : FinUpTo (f.unitExp + j) y) (he : 2 ^ (f.unitExp + i + j) < overflowMag f) :
    FinUpTo (f.unitExp + i + j) (fmul f x y) := by
  obtain ⟨n, m, rfl, hm⟩ := hx
  obtain ⟨n', m', rfl, hm'⟩ := hy
  refine finUpTo_roundReal _ (Nat.two_pow_pos _) he ?_
  calc m * m' ≤ 2 ^ (f.unitExp + i) * 2 ^ (f.unitExp + j) := Nat.mul_le_mul hm hm'
    _ = 2 ^ (f.unitExp + i + j) * 2 ^ f.unitExp := by ring

theorem FinUpTo.fadd {f : FloatFmt} {e : Nat} {x y : FVal} (hx : FinUpTo e x) (hy : FinUpTo e y)
    (he : 2 ^ (e + 1) < overflowMag f) : FinUpTo (e + 1) (fadd f x y) := by
  obtain ⟨n, m, rfl, hm⟩ := hx
  obtain ⟨n', m', rfl, hm'⟩ := hy
  have hround (neg : Bool) {num : Nat} (h : num ≤ 2 ^ e + 2 ^ e) : FinUpTo (e + 1) (roundReal f neg num 1) :=
    finUpTo_roundReal neg one_pos he (by rw [pow_succ]; omega)
  rw [Machine.fadd]
  split_ifs
  · exact hround n (by omega)
  · exact ⟨false, 0, rfl, Nat.zero_le _⟩
  · exact hround n (by omega)
  · exact hround n' (by omega)

theorem FinUpTo.fsub {f : FloatFmt} {e : Nat} {x y : FVal} (hx : FinUpTo e x) (hy : FinUpTo e y)
    (he : 2 ^ (e + 1) < overflowMag f) : FinUpTo (e + 1) (fsub f x y) :=
  hx.fadd hy.fneg he

theorem two_pow_lt_overflowMag {f : FloatFmt} {e : Nat} (he : e < 2 ^ f.expBits + f.fracBits - 2) :
    2 ^ e < overflowMag f :=
  Nat.pow_lt_pow_right one_lt_two he

theorem finUpTo_mulF {a b : FVal} (ha : FinUpTo 149 a) (hb : FinUpTo 149 b) : FinUpTo 149 (mulF a b) :=
  FinUpTo.fmul (i := 0) (j := 0) ha hb (two_pow_lt_overflowMag (by decide))

/-- 1 - a is at most 2, and so is its product with p. -/
theorem finUpTo_one_sub_mul {p a : FVal} (hp : FinUpTo 149 p) (ha : FinUpTo 149 a) :
    FinUpTo 150 (fmul b32 (fsub b32 (fone b32) a) p) := by
  have hone : FinUpTo 149 (fone b32) := ⟨false, _, rfl, le_rfl⟩
  have hsub : FinUpTo 150 (fsub b32 (fone b32) a) := hone.fsub ha (two_pow_lt_overflowMag (by decide))
  exact FinUpTo.fmul (i := 1) (j := 0) hsub hp (two_pow_lt_overflowMag (by decide))

theorem finUpTo_lerpF {p q a : FVal} (hp : FinUpTo 149 p) (hq : FinUpTo 149 q) (ha : FinUpTo 149 a) :
    FinUpTo 151 (lerpF p q a) :=
  (finUpTo_one_sub_mul hp ha).fadd ((finUpTo_mulF ha hq).mono (by decide)) (two_pow_lt_overflowMag (by decide))

theorem finUpTo_prelerpF {p q a : FVal} (hp : FinUpTo 149 p) (hq : FinUpTo 149 q) (ha : FinUpTo 149 a) :
    FinUpTo 151 (prelerpF p q a) :=
  (finUpTo_one_sub_mul hp ha).fadd (hq.mono (by decide)) (two_pow_lt_overflowMag (by decide))

/-- Settles O32: no intermediate value of the kernels is above 4, far below the overflow limit. -/
theorem floatKernelsNanFree : Obligations.FloatKernelsNanFree := by
  unfold Obligations.FloatKernelsNanFree
  intro p q a hin
  have hunit (x : Word) (hx : x ∈ [p, q, a]) : FinUpTo 149 (f32 x) := by
    obtain ⟨n, m, hval, hm, -⟩ := hin x hx
    exact ⟨n, m, hval, hm⟩
  have hp := hunit p (by simp)
  have hq := hunit q (by simp)
  have ha := hunit a (by simp)
  exact ⟨(finUpTo_lerpF hp hq ha).finite, (finUpTo_prelerpF hp hq ha).finite, (finUpTo_mulF hp hq).finite⟩

end Sys2Proof.Machine

/-! SUPPORT. The exact sRGB curves of 41_srgb.md R170 and R171 over the reals: the model's comparisons of integers are
comparisons with the real curve, power law and all, and how the curve lies between its ends. -/

namespace Sys2Proof.Machine

/-! ### Powers with rational exponents -/

theorem rpow_div_pow {b : ℝ} (hb : 0 ≤ b) (p : ℕ) {q : ℕ} (hq : q ≠ 0) : (b ^ (p / q : ℝ)) ^ q = b ^ p := by
  rw [← Real.rpow_natCast, ← Real.rpow_mul hb, div_mul_cancel₀ _ (Nat.cast_ne_zero.2 hq), Real.rpow_natCast]

theorem le_rpow_div_iff {y b : ℝ} (hy : 0 ≤ y) (hb : 0 ≤ b) (p : ℕ) {q : ℕ} (hq : q ≠ 0) :
    y ≤ b ^ (p / q : ℝ) ↔ y ^ q ≤ b ^ p := by
  rw [← rpow_div_pow hb p hq, pow_le_pow_iff_left₀ hy (Real.rpow_nonneg hb _) hq]

theorem rpow_div_le_iff {y b : ℝ} (hy : 0 ≤ y) (hb : 0 ≤ b) (p : ℕ) {q : ℕ} (hq : q ≠ 0) :
    b ^ (p / q : ℝ) ≤ y ↔ b ^ p ≤ y ^ q := by
  rw [← rpow_div_pow hb p hq, pow_le_pow_iff_left₀ (Real.rpow_nonneg hb _) hy hq]

/-! ### The two branches of each curve -/

theorem toLinearReal_of_le {x : ℝ} (h : x ≤ 4045 / 100000) : toLinearReal x = 25 * x / 323 := by
  rw [toLinearReal, if_pos (by norm_num at h ⊢; exact h)]
  ring

theorem toLinearReal_of_lt {x : ℝ} (h : 4045 / 100000 < x) :
    toLinearReal x = ((1000 * x + 55) / 1055) ^ ((12 : ℕ) / (5 : ℕ) : ℝ) := by
  rw [toLinearReal, if_neg (by norm_num at h ⊢; exact h)]
  congr 1
  · ring
  · norm_num

theorem toSrgbReal_of_le {x : ℝ} (h : x ≤ 31308 / 10000000) : toSrgbReal x = 323 * x / 25 := by
  rw [toSrgbReal, if_pos (by norm_num at h ⊢; exact h)]
  ring

theorem toSrgbReal_of_lt {x : ℝ} (h : 31308 / 10000000 < x) :
    toSrgbReal x = (1055 * x ^ ((5 : ℕ) / (12 : ℕ) : ℝ) - 55) / 1000 := by
  rw [toSrgbReal, if_neg (by norm_num at h ⊢; exact h), show (1 / 2.4 : ℝ) = (5 : ℕ) / (12 : ℕ) by norm_num]
  ring

/-! ### The integer comparisons are comparisons with the curve -/

/-- a and b lie to each other as c and d do. -/
def SameOrder (a b c d : ℝ) : Prop := (a ≤ b ↔ c ≤ d) ∧ (b ≤ a ↔ d ≤ c)

/-- Powers of numbers that are not negative, in one scale, lie as the numbers do. -/
theorem SameOrder.of_scaled_pow {a b c d : ℝ} (k : ℝ) {n : ℕ} (hn : n ≠ 0) (hk : 0 < k) (hc : 0 ≤ c) (hd : 0 ≤ d)
    (ha : a = k * c ^ n) (hb : b = k * d ^ n) : SameOrder a b c d := by
  subst ha hb
  exact ⟨by rw [mul_le_mul_iff_right₀ hk, pow_le_pow_iff_left₀ hc hd hn],
    by rw [mul_le_mul_iff_right₀ hk, pow_le_pow_iff_left₀ hd hc hn]⟩

/-- A quotient of integers against a fraction, cross-multiplied. -/
theorem mul_le_mul_iff_div_le_div {a b c d : ℕ} (hb : 0 < b) (hd : 0 < d) : a * d ≤ c * b ↔ (a / b : ℝ) ≤ c / d := by
  rw [div_le_div_iff₀ (Nat.cast_pos.2 hb) (Nat.cast_pos.2 hd)]
  exact_mod_cast Iff.rfl

section Compare

variable {yn yd xn xd : ℕ} (hyd : 0 < yd) (hxd : 0 < xd)
include hyd hxd

theorem sameOrder_toLinear_linear (hx : (xn / xd : ℝ) ≤ 4045 / 100000) :
    SameOrder (yn * (323 * xd)) (25 * xn * yd) (yn / yd) (toLinearReal (xn / xd)) := by
  rw [toLinearReal_of_le hx]
  refine .of_scaled_pow (323 * xd * yd) one_ne_zero (by positivity) (by positivity) (by positivity) ?_ ?_ <;> field_simp

theorem sameOrder_toLinear_power (hx : 4045 / 100000 < (xn / xd : ℝ)) :
    SameOrder (yn ^ 5 * (1055 * xd) ^ 12) (yd ^ 5 * (1000 * xn + 55 * xd) ^ 12) (yn / yd) (toLinearReal (xn / xd)) := by
  rw [toLinearReal_of_lt hx]
  refine .of_scaled_pow (yd ^ 5 * (1055 * xd) ^ 12) (n := 5) (by decide) (by positivity) (by positivity) (by positivity) ?_ ?_
  · field_simp
  · rw [rpow_div_pow (by positivity) 12 (by decide)]
    field_simp

theorem sameOrder_toSrgb_linear (hx : (xn / xd : ℝ) ≤ 31308 / 10000000) :
    SameOrder (yn * (25 * xd)) (323 * xn * yd) (yn / yd) (toSrgbReal (xn / xd)) := by
  rw [toSrgbReal_of_le hx]
  refine .of_scaled_pow (25 * xd * yd) one_ne_zero (by positivity) (by positivity) (by positivity) ?_ ?_ <;> field_simp

theorem sameOrder_toSrgb_power (hx : 31308 / 10000000 < (xn / xd : ℝ)) :
    SameOrder ((1000 * yn + 55 * yd) ^ 12 * xd ^ 5) ((1055 * yd) ^ 12 * xn ^ 5) (yn / yd) (toSrgbReal (xn / xd)) := by
  have hpow : SameOrder ((1000 * yn + 55 * yd) ^ 12 * xd ^ 5 : ℝ) ((1055 * yd) ^ 12 * xn ^ 5)
      ((1000 * (yn / yd) + 55) / 1055) ((xn / xd : ℝ) ^ ((5 : ℕ) / (12 : ℕ) : ℝ)) := by
    refine .of_scaled_pow ((1055 * yd) ^ 12 * xd ^ 5) (n := 12) (by decide) (by positivity) (by positivity) (by positivity)
      ?_ ?_
    · field_simp
    · rw [rpow_div_pow (by positivity) 5 (by decide)]
      field_simp
  rw [toSrgbReal_of_lt hx]
  refine ⟨hpow.1.trans ?_, hpow.2.trans ?_⟩ <;> constructor <;> intro h <;> linarith

/-- The model's two comparisons with F are those with the real curve (R170, R171). -/
theorem transfer_iff (F : Transfer) : (leTransfer F yn yd xn xd = true ↔ (yn / yd : ℝ) ≤ transferReal F (xn / xd)) ∧
    (geTransfer F yn yd xn xd = true ↔ transferReal F (xn / xd) ≤ (yn / yd : ℝ)) := by
  cases F
  case toLinear =>
    have hside : xn * 100000 ≤ 4045 * xd ↔ (xn / xd : ℝ) ≤ 4045 / 100000 := by
      simpa using mul_le_mul_iff_div_le_div (a := xn) (c := 4045) (d := 100000) hxd (by decide)
    simp only [leTransfer, geTransfer, leToLinear, geToLinear, transferReal]
    split <;> rename_i hx
    · have h := sameOrder_toLinear_linear (yn := yn) hyd hxd (hside.1 hx)
      simp only [decide_eq_true_eq]
      exact_mod_cast And.intro h.1 h.2
    · have h := sameOrder_toLinear_power (yn := yn) hyd hxd (not_le.1 (mt hside.2 hx))
      simp only [decide_eq_true_eq]
      exact_mod_cast And.intro h.1 h.2
  case toSrgb =>
    have hside : xn * 10000000 ≤ 31308 * xd ↔ (xn / xd : ℝ) ≤ 31308 / 10000000 := by
      simpa using mul_le_mul_iff_div_le_div (a := xn) (c := 31308) (d := 10000000) hxd (by decide)
    simp only [leTransfer, geTransfer, leToSrgb, geToSrgb, transferReal]
    split <;> rename_i hx
    · have h := sameOrder_toSrgb_linear (yn := yn) hyd hxd (hside.1 hx)
      simp only [decide_eq_true_eq]
      exact_mod_cast And.intro h.1 h.2
    · have h := sameOrder_toSrgb_power (yn := yn) hyd hxd (not_le.1 (mt hside.2 hx))
      simp only [decide_eq_true_eq]
      exact_mod_cast And.intro h.1 h.2

theorem leTransfer_iff (F : Transfer) : leTransfer F yn yd xn xd = true ↔ (yn / yd : ℝ) ≤ transferReal F (xn / xd) :=
  (transfer_iff hyd hxd F).1

theorem geTransfer_iff (F : Transfer) : geTransfer F yn yd xn xd = true ↔ transferReal F (xn / xd) ≤ (yn / yd : ℝ) :=
  (transfer_iff hyd hxd F).2

theorem leTransfer_eq_false_iff (F : Transfer) :
    leTransfer F yn yd xn xd = false ↔ transferReal F (xn / xd) < (yn / yd : ℝ) := by
  rw [← Bool.not_eq_true, leTransfer_iff hyd hxd, not_le]

theorem geTransfer_eq_false_iff (F : Transfer) :
    geTransfer F yn yd xn xd = false ↔ (yn / yd : ℝ) < transferReal F (xn / xd) := by
  rw [← Bool.not_eq_true, geTransfer_iff hyd hxd, not_le]

end Compare

/-! ### The curve between bounds -/

/-- F(x) is at least x/13 up to 1/1000 and does not fall below 1/13000 beyond. -/
theorem min_div_le_transferReal (F : Transfer) {x : ℝ} (hx : 0 ≤ x) : min x (1 / 1000) / 13 ≤ transferReal F x := by
  have hminx := min_le_left x (1 / 1000)
  have hmin := min_le_right x (1 / 1000 : ℝ)
  cases F <;> simp only [transferReal]
  case toLinear =>
    rcases le_or_gt x (4045 / 100000) with h | h
    · rw [toLinearReal_of_le h]
      linarith
    · rw [toLinearReal_of_lt h]
      have hbase : (1 / 12 : ℝ) ≤ (1000 * x + 55) / 1055 := by linarith
      refine (show _ ≤ (1 / 13000 : ℝ) by linarith).trans
        ((le_rpow_div_iff (by norm_num) (by positivity) 12 (by decide)).2 ?_)
      exact (show (1 / 13000 : ℝ) ^ 5 ≤ (1 / 12) ^ 12 by norm_num).trans (pow_le_pow_left₀ (by norm_num) hbase 12)
  case toSrgb =>
    rcases le_or_gt x (31308 / 10000000) with h | h
    · rw [toSrgbReal_of_le h]
      linarith
    · rw [toSrgbReal_of_lt h]
      have hroot : (56 / 1055 : ℝ) ≤ x ^ ((5 : ℕ) / (12 : ℕ) : ℝ) := by
        refine (le_rpow_div_iff (by norm_num) hx 5 (by decide)).2 ?_
        exact (show (56 / 1055 : ℝ) ^ 12 ≤ (31308 / 10000000) ^ 5 by norm_num).trans
          (pow_le_pow_left₀ (by norm_num) h.le 5)
      linarith

theorem transferReal_nonneg (F : Transfer) {x : ℝ} (hx : 0 ≤ x) : 0 ≤ transferReal F x :=
  le_trans (div_nonneg (le_min hx (by norm_num)) (by norm_num)) (min_div_le_transferReal F hx)

/-- F does not grow faster than the cube; at B = 1 this says that F maps [0, 1] into [0, 1]. -/
theorem transferReal_le_cube (F : Transfer) {x B : ℝ} (hx : 0 ≤ x) (hB : 1 ≤ B) (hxB : x ≤ B) :
    transferReal F x ≤ B ^ 3 := by
  have hcube : B ≤ B ^ 3 := le_self_pow₀ hB (by decide)
  cases F <;> simp only [transferReal]
  case toLinear =>
    rcases le_or_gt x (4045 / 100000) with h | h
    · rw [toLinearReal_of_le h]
      linarith
    · rw [toLinearReal_of_lt h, rpow_div_le_iff (by positivity) (by positivity) 12 (by decide), ← pow_mul]
      exact (pow_le_pow_left₀ (by positivity) (by linarith) 12).trans (pow_le_pow_right₀ hB (by decide))
  case toSrgb =>
    rcases le_or_gt x (31308 / 10000000) with h | h
    · rw [toSrgbReal_of_le h]
      linarith
    · have hroot : x ^ ((5 : ℕ) / (12 : ℕ) : ℝ) ≤ B := by
        refine (rpow_div_le_iff (by positivity) hx 5 (by decide)).2 ?_
        exact (pow_le_pow_left₀ hx hxB 5).trans (pow_le_pow_right₀ hB (by decide))
      rw [toSrgbReal_of_lt h]
      nlinarith [mul_nonneg (sub_nonneg.2 hB) (sub_nonneg.2 hB)]

theorem transferReal_le_one (F : Transfer) {x : ℝ} (hx : 0 ≤ x) (h1 : x ≤ 1) : transferReal F x ≤ 1 := by
  simpa using transferReal_le_cube F hx le_rfl h1

@[simp] theorem transferReal_zero (F : Transfer) : transferReal F 0 = 0 := by
  cases F
  · rw [transferReal, toLinearReal_of_le (by norm_num)]; norm_num
  · rw [transferReal, toSrgbReal_of_le (by norm_num)]; norm_num

@[simp] theorem transferReal_one (F : Transfer) : transferReal F 1 = 1 := by
  cases F
  · rw [transferReal, toLinearReal_of_lt (by norm_num), show (1000 * 1 + 55 : ℝ) / 1055 = 1 by norm_num, Real.one_rpow]
  · rw [transferReal, toSrgbReal_of_lt (by norm_num), Real.one_rpow]; norm_num

/-! ### Where the curve does not fall -/

/-- to_linear rises across its threshold too. -/
theorem toLinearReal_mono {x y : ℝ} (hx : 0 ≤ x) (h : x ≤ y) : toLinearReal x ≤ toLinearReal y := by
  rcases le_or_gt y (4045 / 100000) with hy | hy
  · rw [toLinearReal_of_le hy, toLinearReal_of_le (h.trans hy)]
    linarith
  · rw [toLinearReal_of_lt hy]
    rcases le_or_gt x (4045 / 100000) with hx' | hx'
    · rw [toLinearReal_of_le hx', le_rpow_div_iff (by positivity) (by linarith) 12 (by decide)]
      calc (25 * x / 323) ^ 5 ≤ (25 * (4045 / 100000) / 323) ^ 5 := pow_le_pow_left₀ (by positivity) (by linarith) 5
        _ ≤ ((1000 * (4045 / 100000) + 55) / 1055) ^ 12 := by norm_num
        _ ≤ ((1000 * y + 55) / 1055) ^ 12 := pow_le_pow_left₀ (by norm_num) (by linarith) 12
    · rw [toLinearReal_of_lt hx']
      exact Real.rpow_le_rpow (by positivity) (by linarith) (by positivity)

/-- to_srgb rises on either side of its threshold; across it, it falls (90_conflicts.md C3). -/
theorem toSrgbReal_mono_of_same_side {x y : ℝ} (hx : 0 ≤ x) (h : x ≤ y)
    (hside : x ≤ 31308 / 10000000 ↔ y ≤ 31308 / 10000000) : toSrgbReal x ≤ toSrgbReal y := by
  rcases le_or_gt y (31308 / 10000000) with hy | hy
  · rw [toSrgbReal_of_le hy, toSrgbReal_of_le (h.trans hy)]
    linarith
  · rw [toSrgbReal_of_lt hy, toSrgbReal_of_lt (not_le.1 fun hx' => absurd (hside.1 hx') (not_le.2 hy))]
    have hroot := Real.rpow_le_rpow hx h (show (0 : ℝ) ≤ (5 : ℕ) / (12 : ℕ) by positivity)
    linarith

end Sys2Proof.Machine

/-! SUPPORT. The conversions of 41_srgb.md R173-R187: the integer conversions round the exact real curve half up, the four
tables list the curve's values, and S2L, L2S, S2LT and L2ST complete with them. -/

namespace Sys2Proof.Machine

/-! ### The integer conversions (R173, R174, R179) -/

/-- n - 1/2 ≤ full·F(v/full), in the form of the rounding half up; at 0 the model's 2n - 1 is 0, and F is not negative. -/
theorem roundsUpTo_iff (F : Transfer) {full : ℕ} (hfull : 0 < full) (v n : ℕ) :
    roundsUpTo F full v n = true ↔ (n : ℝ) ≤ transferReal F (v / full) * full + 1 / 2 := by
  have hfull' : (0 : ℝ) < full := Nat.cast_pos.2 hfull
  rw [roundsUpTo, leTransfer_iff (by omega) hfull]
  rcases Nat.eq_zero_or_pos n with rfl | hn
  · have hF := transferReal_nonneg F (x := v / full) (by positivity)
    exact iff_of_true (by simpa using hF) (by push_cast; positivity)
  · rw [Nat.cast_sub (by omega)]
    push_cast
    rw [div_le_iff₀ (by positivity)]
    constructor <;> intro h <;> linarith

/-- What the bisection of a conversion finds: full·F(v/full) rounded half up, or the upper end. -/
theorem convExact_spec (F : Transfer) {full : ℕ} (hfull : full < 2 ^ 17) (v : ℕ) :
    convExact F full v ≤ full ∧ roundsUpTo F full v (convExact F full v) = true ∧
      (convExact F full v = full ∨ roundsUpTo F full v (convExact F full v + 1) = false) := by
  obtain ⟨-, hlt, hle, hnext⟩ := bisect_spec (roundsUpTo F full v) (fuel := 17) (lo := 0) (hi := full + 1)
    (leTransfer_zero F _ _ _) full.succ_pos (by omega)
  exact ⟨Nat.le_of_lt_succ hlt, hle, hnext.imp_left Nat.succ.inj⟩

theorem convExact_le (F : Transfer) {full : ℕ} (hfull : full < 2 ^ 17) (v : ℕ) : convExact F full v ≤ full :=
  (convExact_spec F hfull v).1

theorem convExact_eq_floor (F : Transfer) {full v : ℕ} (hpos : 0 < full) (hfull : full < 2 ^ 17) (hv : v ≤ full) :
    (convExact F full v : ℤ) = ⌊transferReal F (v / full) * full + 1 / 2⌋ := by
  obtain ⟨-, hle, hnext⟩ := convExact_spec F hfull v
  have hfull' : (0 : ℝ) < full := Nat.cast_pos.2 hpos
  refine (Int.floor_eq_iff.2 ⟨mod_cast (roundsUpTo_iff F hpos v _).1 hle, ?_⟩).symm
  rcases hnext with htop | hnext
  · have hone := transferReal_le_one F (x := v / full) (by positivity) ((div_le_one hfull').2 (mod_cast hv))
    have := mul_le_of_le_one_left hfull'.le hone
    rw [htop, Int.cast_natCast]
    linarith
  · rw [← Bool.not_eq_true, roundsUpTo_iff F hpos, not_le] at hnext
    exact_mod_cast hnext

/-- Settles O36: `convExact_eq_floor` at both channel ranges. -/
theorem conversionIsExactRounding : Obligations.ConversionIsExactRounding := by
  unfold Obligations.ConversionIsExactRounding
  intro F full hfull v hv
  simp only [List.mem_cons, List.not_mem_nil, or_false] at hfull
  rcases hfull with rfl | rfl <;> exact convExact_eq_floor F (by decide) (by decide) hv

/-! ### The commands that convert by the scalar core (R181, R182, R184, R185) -/

theorem lanesAre_byShape {sh : Shape} {value : LaneIx → Word} {alpha : Word} {f : LaneIx → ℕ} {g : ℕ}
    (hvalue : ∀ j, (value j).toNat = f j) (halpha : alpha.toNat = g) :
    LanesAre (byShape sh value alpha) fun j => if isValueLane sh j then f j else if isAlphaLane sh j then g else 0 := by
  intro j
  simp only [get_byShape]
  split_ifs
  · exact hvalue j
  · exact halpha
  · rfl

theorem out_chan_toNat {W : ℕ} (hW : W ∈ [8, 16]) (l : Lanes) (j : LaneIx) : (out (chan W l j)).toNat = chan W l j :=
  out_toNat_of_le_maxW hW (chan_le_maxW W l j)

theorem lanesAre_convU16 (F : Transfer) (sh : Shape) (o : Operands) : LanesAre (convU16 F sh o) fun j =>
    if isValueLane sh j then convExact F 65535 (chan 16 o.a j) else if isAlphaLane sh j then chan 16 o.a 3 else 0 :=
  lanesAre_byShape (fun _ => out_toNat_of_le_maxW (W := 16) (by decide) (convExact_le F (by decide) _))
    (out_chan_toNat (by decide) o.a 3)

/-- Settles O37: each form computes `convU16` of its curve and shape. -/
theorem conversionsU16 : Obligations.ConversionsU16 := by
  unfold Obligations.ConversionsU16
  exact ⟨.of_compute (fun _ => rfl) (lanesAre_convU16 .toLinear .v4),
    .of_compute (fun _ => rfl) (lanesAre_convU16 .toLinear .ga),
    .of_compute (fun _ => rfl) (lanesAre_convU16 .toLinear .rgb),
    .of_compute (fun _ => rfl) (lanesAre_convU16 .toLinear .rgba),
    .of_compute (fun _ => rfl) (lanesAre_convU16 .toSrgb .v4),
    .of_compute (fun _ => rfl) (lanesAre_convU16 .toSrgb .ga),
    .of_compute (fun _ => rfl) (lanesAre_convU16 .toSrgb .rgb),
    .of_compute (fun _ => rfl) (lanesAre_convU16 .toSrgb .rgba)⟩

theorem get_convF32 (F : Transfer) (sh : Shape) (o : Operands) (j : LaneIx) : Lanes.get (convF32 F sh o) j =
    if isValueLane sh j then convF (f32 (Lanes.get o.a j)) F else if isAlphaLane sh j then o.a.l3 else 0 :=
  get_byShape sh _ _ j

/-- Settles O38: each form computes `convF32` of its curve and shape. -/
theorem conversionsF32 : Obligations.ConversionsF32 := by
  unfold Obligations.ConversionsF32
  exact ⟨.of_compute (fun _ => rfl) (get_convF32 .toLinear .v4), .of_compute (fun _ => rfl) (get_convF32 .toLinear .ga),
    .of_compute (fun _ => rfl) (get_convF32 .toLinear .rgb), .of_compute (fun _ => rfl) (get_convF32 .toLinear .rgba),
    .of_compute (fun _ => rfl) (get_convF32 .toSrgb .v4), .of_compute (fun _ => rfl) (get_convF32 .toSrgb .ga),
    .of_compute (fun _ => rfl) (get_convF32 .toSrgb .rgb), .of_compute (fun _ => rfl) (get_convF32 .toSrgb .rgba)⟩

/-! ### The 8-bit tables (R173, R174, R180, R183) -/

theorem lutIndex_val (l : Lanes) (j : LaneIx) : (lutIndex (Lanes.get l j)).val = chan 8 l j := by
  simp [lutIndex, chan]

/-- The tables list the rounded curve: all entries are checked. -/
theorem s2l8Table_eq_convExact : ∀ i : Fin 256, (s2l8Table[i]).toNat = convExact .toLinear 255 i := by decide +kernel
theorem l2s8Table_eq_convExact : ∀ i : Fin 256, (l2s8Table[i]).toNat = convExact .toSrgb 255 i := by decide +kernel

theorem lanesAre_tableU8 {F : Transfer} {t : Vector Byte 256} (ht : ∀ i : Fin 256, (t[i]).toNat = convExact F 255 i)
    (sh : Shape) (o : Operands) : LanesAre (tableU8 t sh o) fun j =>
      if isValueLane sh j then convExact F 255 (chan 8 o.a j) else if isAlphaLane sh j then chan 8 o.a 3 else 0 := by
  refine lanesAre_byShape (fun j => ?_) (out_chan_toNat (by decide) o.a 3)
  rw [BitVec.toNat_setWidth_of_le (by decide), ht, lutIndex_val]

/-- Settles O33: each form looks its lanes up in a table of the rounded curve. -/
theorem lutConversionsU8 : Obligations.LutConversionsU8 := by
  unfold Obligations.LutConversionsU8
  exact ⟨.of_computeLut (fun _ => rfl) (lanesAre_tableU8 s2l8Table_eq_convExact .v4),
    .of_computeLut (fun _ => rfl) (lanesAre_tableU8 s2l8Table_eq_convExact .ga),
    .of_computeLut (fun _ => rfl) (lanesAre_tableU8 s2l8Table_eq_convExact .rgb),
    .of_computeLut (fun _ => rfl) (lanesAre_tableU8 s2l8Table_eq_convExact .rgba),
    .of_computeLut (fun _ => rfl) (lanesAre_tableU8 l2s8Table_eq_convExact .v4),
    .of_computeLut (fun _ => rfl) (lanesAre_tableU8 l2s8Table_eq_convExact .ga),
    .of_computeLut (fun _ => rfl) (lanesAre_tableU8 l2s8Table_eq_convExact .rgb),
    .of_computeLut (fun _ => rfl) (lanesAre_tableU8 l2s8Table_eq_convExact .rgba)⟩

end Sys2Proof.Machine

/-! SUPPORT. The binary32 tables of 41_srgb.md R175 and R176: each entry is the binary32 value nearest to the exact curve, and
S2LT and L2ST look the entries up. -/

namespace Sys2Proof.Machine

/-! ### The nearest binary32 value -/

/-- Every other magnitude of the format is a whole grid step away from one whose significand is not a power of two. -/
theorem Representable.step_away {f : FloatFmt} {n e m : ℕ} (hm : Representable f m) (hn : 2 ^ f.fracBits < n)
    (hne : m ≠ n * 2 ^ e) : m + 2 ^ e ≤ n * 2 ^ e ∨ n * 2 ^ e + 2 ^ e ≤ m := by
  obtain ⟨k, s, hk, rfl⟩ := hm
  rcases Nat.lt_or_ge s e with hs | hs
  · left
    calc k * 2 ^ s + 2 ^ e ≤ 2 ^ (f.fracBits + 1) * 2 ^ s + 2 ^ e := by gcongr
      _ = 2 ^ f.fracBits * 2 ^ (s + 1) + 2 ^ e := by ring
      _ ≤ 2 ^ f.fracBits * 2 ^ e + 2 ^ e := by gcongr <;> omega
      _ = (2 ^ f.fracBits + 1) * 2 ^ e := by ring
      _ ≤ n * 2 ^ e := Nat.mul_le_mul_right _ hn
  · have hgrid : k * 2 ^ s = k * 2 ^ (s - e) * 2 ^ e := by rw [Nat.mul_assoc, ← pow_add, Nat.sub_add_cancel hs]
    rw [hgrid] at hne ⊢
    rcases Nat.lt_or_gt_of_ne fun h : k * 2 ^ (s - e) = n => hne (by rw [h]) with hlt | hlt
    · left
      rw [← Nat.succ_mul]
      exact Nat.mul_le_mul_right _ hlt
    · right
      rw [← Nat.succ_mul]
      exact Nat.mul_le_mul_right _ hlt

/-- Within half a step of m, no number a whole step away is as near. -/
theorem closer_of_within_half_step {x m m' g : ℝ} (hlow : 2 * m - g < 2 * x) (hhigh : 2 * x < 2 * m + g)
    (hstep : m' + g ≤ m ∨ m + g ≤ m') : |m - x| < |m' - x| := by
  rcases hstep with h | h
  · rw [abs_of_nonpos (show m' - x ≤ 0 by linarith), abs_lt]
    constructor <;> linarith
  · rw [abs_of_nonneg (show 0 ≤ m' - x by linarith), abs_lt]
    constructor <;> linarith

theorem abs_div_sub {U : ℝ} (hU : 0 < U) (m x : ℝ) : |m / U - x| = |m - x * U| / U := by
  rw [← abs_of_pos hU, ← abs_div, abs_of_pos hU, sub_div, mul_div_cancel_right₀ _ hU.ne']

/-- A value that a word has exactly is nearest to itself. -/
theorem nearestF32_of_eq {x : ℝ} {w : Word} {m : ℕ} (hw : f32 w = .fin false m) (hx : x = m / 2 ^ 149) :
    NearestF32 x w := by
  refine ⟨m, hw, fun m' _ hne => ?_⟩
  rw [hx, sub_self, abs_zero, abs_pos, sub_ne_zero]
  exact fun h => hne (by exact_mod_cast (div_left_inj' (by positivity)).1 h)

theorem nearestF32_of_within_half_step {x : ℝ} {w : Word} {n e : ℕ} (hw : f32 w = .fin false (n * 2 ^ e))
    (hn : 2 ^ 23 < n) (hlow : ((2 * n - 1 : ℕ) * 2 ^ e : ℝ) / (2 * 2 ^ 149) < x)
    (hhigh : x < ((2 * n + 1 : ℕ) * 2 ^ e : ℝ) / (2 * 2 ^ 149)) : NearestF32 x w := by
  refine ⟨_, hw, fun m' hm' hne => ?_⟩
  have hU : (0 : ℝ) < 2 ^ 149 := by positivity
  rw [abs_div_sub hU, abs_div_sub hU, div_lt_div_iff_of_pos_right hU]
  rw [div_lt_iff₀ (by positivity), Nat.cast_sub (by omega)] at hlow
  rw [lt_div_iff₀ (by positivity)] at hhigh
  push_cast at hlow hhigh ⊢
  refine closer_of_within_half_step (g := 2 ^ e) (by linarith) (by linarith) ?_
  exact_mod_cast hm'.step_away hn hne

/-! ### The entries of the tables -/

/-- The exact curve at i/255 is within half a grid step of the word's value, whose significand is no power of two. -/
def entryInside (F : Transfer) (i w : ℕ) : Bool :=
  decide (w < 0x7F800000 ∧ expField b32 w ≠ 0 ∧ fracField b32 w ≠ 0) &&
    !geTransfer F ((2 * (2 ^ 23 + fracField b32 w) - 1) * 2 ^ (expField b32 w - 1)) (2 * 2 ^ 149) i 255 &&
    !leTransfer F ((2 * (2 ^ 23 + fracField b32 w) + 1) * 2 ^ (expField b32 w - 1)) (2 * 2 ^ 149) i 255

/-- The value of a positive normal pattern. -/
theorem f32_ofNat_normal {w : ℕ} (hw : w < 0x7F800000) (hexp : expField b32 w ≠ 0) :
    f32 (BitVec.ofNat 32 w) = .fin false ((2 ^ 23 + fracField b32 w) * 2 ^ (expField b32 w - 1)) := by
  have hsign : signField b32 w = false := by
    have htop : w / 2147483648 = 0 := Nat.div_eq_of_lt (by omega)
    simp [signField, b32, htop]
  have hmax : expField b32 w ≠ 2 ^ b32.expBits - 1 := by
    change w / 2 ^ 23 % 2 ^ 8 ≠ 2 ^ 8 - 1
    omega
  rw [f32, BitVec.toNat_ofNat, Nat.mod_eq_of_lt (by omega), decodeFloat_fin b32 hmax, if_neg hexp, hsign]
  rfl

theorem nearestF32_of_entryInside {F : Transfer} {i w : ℕ} (h : entryInside F i w = true) :
    NearestF32 (transferReal F (i / 255)) (BitVec.ofNat 32 w) := by
  simp only [entryInside, Bool.and_eq_true, decide_eq_true_eq, Bool.not_eq_true'] at h
  obtain ⟨⟨⟨hw, hexp, hfrac⟩, hge⟩, hle⟩ := h
  rw [geTransfer_eq_false_iff (by positivity) (by norm_num)] at hge
  rw [leTransfer_eq_false_iff (by positivity) (by norm_num)] at hle
  exact nearestF32_of_within_half_step (f32_ofNat_normal hw hexp) (by omega) (by exact_mod_cast hge) (by exact_mod_cast hle)

/-- All entries between the first, which is 0, and the last, which is 1. -/
theorem s2lf_entryInside : ∀ i : Fin 256, i ≠ 0 → i ≠ 255 →
    entryInside .toLinear i (s2lfRows.flatten.getD i 0) = true := by decide +kernel
theorem l2sf_entryInside : ∀ i : Fin 256, i ≠ 0 → i ≠ 255 →
    entryInside .toSrgb i (l2sfRows.flatten.getD i 0) = true := by decide +kernel
theorem s2lf_ends : s2lfRows.flatten.getD 0 0 = 0 ∧ s2lfRows.flatten.getD 255 0 = 0x3F800000 := by decide +kernel
theorem l2sf_ends : l2sfRows.flatten.getD 0 0 = 0 ∧ l2sfRows.flatten.getD 255 0 = 0x3F800000 := by decide +kernel

theorem f32_zero : f32 0 = .fin false 0 := by decide
theorem f32_one : f32 0x3F800000 = .fin false (2 ^ 149) := by decide +kernel

/-- F maps 0 to 0 and 1 to 1, so the ends of a table are exact. -/
theorem nearestF32_entry (F : Transfer) {rows : List ℕ} (hends : rows.getD 0 0 = 0 ∧ rows.getD 255 0 = 0x3F800000)
    (hinside : ∀ i : Fin 256, i ≠ 0 → i ≠ 255 → entryInside F i (rows.getD i 0) = true) {i : ℕ} (hi : i < 256) :
    NearestF32 (transferReal F (i / 255)) (BitVec.ofNat 32 (rows.getD i 0)) := by
  rcases eq_or_ne i 0 with rfl | h0
  · rw [hends.1]
    exact nearestF32_of_eq f32_zero (by simp)
  rcases eq_or_ne i 255 with rfl | h255
  · rw [hends.2]
    exact nearestF32_of_eq f32_one (by norm_num)
  exact nearestF32_of_entryInside (hinside ⟨i, hi⟩ (by simpa [Fin.ext_iff]) (by simpa [Fin.ext_iff]))

/-! ### The lookups (R186, R187) -/

theorem s2lfTable_toNat : ∀ i : Fin 256, (s2lfTable[i]).toNat = s2lfRows.flatten.getD i 0 := by decide +kernel
theorem l2sfTable_toNat : ∀ i : Fin 256, (l2sfTable[i]).toNat = l2sfRows.flatten.getD i 0 := by decide +kernel

theorem lanesAre_lookup {t : Vector Word 256} {g : ℕ → ℕ} (ht : ∀ i : Fin 256, (t[i]).toNat = g i) (o : Operands) :
    LanesAre (Lanes.ofFn fun j => t[lutIndex (Lanes.get o.a j)]) fun j => g (chan 8 o.a j) := by
  intro j
  rw [Lanes.get_ofFn, ht, lutIndex_val]

/-- Settles O34: `lanesAre_lookup` for the commands, `nearestF32_entry` for the tables. -/
theorem lutFloatLookups : Obligations.LutFloatLookups := by
  unfold Obligations.LutFloatLookups
  exact ⟨.of_computeLut (fun _ => rfl) (lanesAre_lookup (t := s2lfTable) (g := (s2lfRows.flatten.getD · 0)) s2lfTable_toNat),
    .of_computeLut (fun _ => rfl) (lanesAre_lookup (t := l2sfTable) (g := (l2sfRows.flatten.getD · 0)) l2sfTable_toNat),
    fun _ hi => ⟨nearestF32_entry .toLinear s2lf_ends s2lf_entryInside hi,
      nearestF32_entry .toSrgb l2sf_ends l2sf_entryInside hi⟩⟩

end Sys2Proof.Machine

/-! SUPPORT. The scalar cores (41_srgb.md R172): on positive binary32 values their bound is one on the real curve, they do not
fall where the curve does not, and the special and the negative values go as R172 (3) and (4) say. -/

namespace Sys2Proof.Machine

/-! ### A binary32 value in binary64 -/

theorem representable_of_decodeFloat {f : FloatFmt} {w : ℕ} {n : Bool} {m : ℕ} (h : decodeFloat f w = .fin n m) :
    Representable f m := by
  have hfrac := fracField_lt f w
  rw [decodeFloat_fields] at h
  split_ifs at h with hmax hzero hsub
  · obtain ⟨-, rfl⟩ := FVal.fin.inj h
    exact ⟨_, 0, hfrac.trans (Nat.pow_lt_pow_succ one_lt_two), (Nat.mul_one _).symm⟩
  · obtain ⟨-, rfl⟩ := FVal.fin.inj h
    exact ⟨_, _, by rw [pow_succ]; omega, rfl⟩

theorem lt_overflowMag_of_decodeFloat {f : FloatFmt} (hf : 2 ≤ f.expBits) {w : ℕ} {n : Bool} {m : ℕ}
    (h : decodeFloat f w = .fin n m) : m < overflowMag f := by
  have hfrac := fracField_lt f w
  have hexp : expField f w < 2 ^ f.expBits := Nat.mod_lt _ (Nat.two_pow_pos _)
  have hwide : 2 ^ 2 ≤ 2 ^ f.expBits := Nat.pow_le_pow_right two_pos hf
  rw [decodeFloat_fields] at h
  split_ifs at h with hmax hzero hsub
  · obtain ⟨-, rfl⟩ := FVal.fin.inj h
    exact hfrac.trans_le (Nat.pow_le_pow_right two_pos (by omega))
  · obtain ⟨-, rfl⟩ := FVal.fin.inj h
    calc (2 ^ f.fracBits + fracField f w) * 2 ^ (expField f w - 1)
        < 2 ^ (f.fracBits + 1) * 2 ^ (expField f w - 1) :=
          Nat.mul_lt_mul_of_pos_right (by rw [pow_succ]; omega) (Nat.two_pow_pos _)
      _ = 2 ^ (f.fracBits + 1 + (expField f w - 1)) := (pow_add ..).symm
      _ ≤ overflowMag f := Nat.pow_le_pow_right two_pos (by omega)

/-- A magnitude that the format has is not changed by rounding. -/
theorem roundReal_exact {f : FloatFmt} {m den : ℕ} (n : Bool) (hden : 0 < den) (hm : Representable f m)
    (hlt : m < overflowMag f) : roundReal f n (m * den) den = .fin n m := by
  have hround : roundMag f (m * den) den = m := by
    have hnear := (roundMag_nearest f (m * den) hden hm).1
    rw [Nat.cast_mul, sub_self, abs_zero, abs_nonpos_iff, sub_eq_zero] at hnear
    exact Nat.eq_of_mul_eq_mul_right hden (by exact_mod_cast hnear)
  rw [roundReal_of_lt n (by rwa [hround]), hround]

theorem Representable.widen {m : ℕ} (h : Representable b32 m) (e : ℕ) : Representable b64 (m * 2 ^ e) := by
  obtain ⟨k, s, hk, rfl⟩ := h
  exact ⟨k, s + e, hk.trans (Nat.pow_lt_pow_right one_lt_two (by decide)), by rw [Nat.mul_assoc, pow_add]⟩

theorem f32_lt {w : Word} {n : Bool} {m : ℕ} (h : f32 w = .fin n m) : m < 2 ^ (128 + 149) :=
  (lt_overflowMag_of_decodeFloat (by decide) h).trans_eq overflowMag_b32

/-- The unit of binary32 is 2^unitGap units of binary64. -/
def unitGap : ℕ := b64.unitExp - b32.unitExp

theorem unitGap_eq : unitGap = 925 := rfl
theorem unitGap_add : unitGap + b32.unitExp = b64.unitExp := rfl
theorem b64_unitExp : b64.unitExp = 1074 := rfl

/-- Widening is exact (00_scope.md R9). -/
theorem fconvert_f32 {w : Word} {n : Bool} {m : ℕ} (h : f32 w = .fin n m) :
    fconvert b32 b64 (.fin n m) = .fin n (m * 2 ^ unitGap) := by
  have hunits : m * 2 ^ b64.unitExp = m * 2 ^ unitGap * 2 ^ b32.unitExp := by
    rw [Nat.mul_assoc, ← pow_add, unitGap_add]
  rw [fconvert, hunits]
  refine roundReal_exact n (Nat.two_pow_pos _) ((representable_of_decodeFloat h).widen unitGap) ?_
  calc m * 2 ^ unitGap < 2 ^ (128 + 149) * 2 ^ unitGap := Nat.mul_lt_mul_of_pos_right (f32_lt h) (Nat.two_pow_pos _)
    _ = 2 ^ (128 + 149 + unitGap) := (pow_add ..).symm
    _ ≤ 2 ^ (1024 + 1074) := pow_le_pow_right₀ one_le_two (by decide)
    _ = overflowMag b64 := overflowMag_b64.symm

/-! ### The bound (R172 (1), (4)) -/

/-- The real value of a binary64 magnitude. -/
noncomputable def magReal (m : ℕ) : ℝ := m / 2 ^ b64.unitExp

theorem magReal_eq (m : ℕ) : magReal m = (m : ℝ) / (2 ^ b64.unitExp : ℕ) := by
  rw [magReal, Nat.cast_pow, Nat.cast_ofNat]

theorem magReal_nonneg (m : ℕ) : 0 ≤ magReal m := by unfold magReal; positivity

theorem magReal_widened (m : ℕ) : magReal (m * 2 ^ unitGap) = m / 2 ^ 149 := by
  rw [magReal, ← unitGap_add, pow_add, Nat.cast_mul, Nat.cast_pow, Nat.cast_ofNat, mul_comm (2 ^ unitGap : ℝ),
    mul_div_mul_right _ _ (pow_ne_zero unitGap two_ne_zero)]
  rfl

theorem leTransfer_mag_iff (F : Transfer) {n d m : ℕ} (hd : 0 < d) :
    leTransfer F n d m (2 ^ b64.unitExp) = true ↔ (n / d : ℝ) ≤ transferReal F (magReal m) := by
  rw [leTransfer_iff hd (Nat.two_pow_pos _), magReal_eq]

theorem geTransfer_mag_iff (F : Transfer) {n d m : ℕ} (hd : 0 < d) :
    geTransfer F n d m (2 ^ b64.unitExp) = true ↔ transferReal F (magReal m) ≤ (n / d : ℝ) := by
  rw [geTransfer_iff hd (Nat.two_pow_pos _), magReal_eq]

/-- The bound in integers is the bound on the real curve. -/
theorem abs_sub_le_of_withinBound {F : Transfer} {m k : ℕ} (h : withinBound F m k = true) :
    |magReal k - transferReal F (magReal m)| ≤ 1 / 2 ^ 40 * transferReal F (magReal m) := by
  obtain ⟨hle, hge⟩ := Bool.and_eq_true_iff.1 h
  have hU : 0 < 2 ^ b64.unitExp := Nat.two_pow_pos _
  rw [leTransfer_mag_iff F (Nat.mul_pos (by norm_num) hU), Nat.cast_mul, Nat.cast_mul, mul_comm (k : ℝ),
    mul_div_mul_comm, ← magReal_eq] at hle
  rw [geTransfer_mag_iff F (Nat.mul_pos (by norm_num) hU), Nat.cast_mul, Nat.cast_mul, mul_comm (k : ℝ),
    mul_div_mul_comm, ← magReal_eq] at hge
  norm_num at hle hge ⊢
  rw [abs_le]
  constructor <;> linarith

/-- Between 2^-149 and 2^128 the curve stays in binary64's normal range. -/
theorem inNormalRange {F : Transfer} {m : ℕ} (hlow : 2 ^ unitGap ≤ m) (hhigh : m ≤ 2 ^ (128 + b64.unitExp)) :
    InNormalRange F m := by
  have hU : 0 < 2 ^ b64.unitExp := Nat.two_pow_pos _
  have hU' : (0 : ℝ) < 2 ^ b64.unitExp := by positivity
  constructor
  · have hsmall : 2 ^ 52 * 13 ≤ m :=
      calc 2 ^ 52 * 13 ≤ 2 ^ 56 := by norm_num
        _ ≤ 2 ^ unitGap := pow_le_pow_right₀ one_le_two (by decide)
        _ ≤ m := hlow
    have hunit : (2 ^ 52 * 13 : ℝ) ≤ 1 / 1000 * 2 ^ b64.unitExp :=
      calc (2 ^ 52 * 13 : ℝ) ≤ 1 / 1000 * 2 ^ 66 := by norm_num
        _ ≤ 1 / 1000 * 2 ^ b64.unitExp :=
          mul_le_mul_of_nonneg_left (pow_le_pow_right₀ one_le_two (by decide)) (by norm_num)
    rw [leTransfer_mag_iff F hU, ← magReal_eq]
    refine le_trans ?_ (min_div_le_transferReal F (magReal_nonneg m))
    rw [le_div_iff₀ (by norm_num), le_min_iff, magReal, magReal, div_mul_eq_mul_div, div_le_div_iff_of_pos_right hU',
      div_le_iff₀ hU']
    exact ⟨by exact_mod_cast hsmall, by rwa [Nat.cast_pow]⟩
  · have hx : magReal m ≤ 2 ^ 128 := by
      rw [magReal, div_le_iff₀ hU', ← pow_add]
      exact_mod_cast hhigh
    rw [← Bool.not_eq_true, leTransfer_mag_iff F hU, not_le]
    refine (transferReal_le_cube F (magReal_nonneg m) (one_le_pow₀ one_le_two) hx).trans_lt ?_
    rw [lt_div_iff₀ (Nat.cast_pos.2 hU), Nat.cast_pow, Nat.cast_pow, Nat.cast_ofNat, ← pow_mul, ← pow_add]
    exact pow_lt_pow_right₀ one_lt_two (by decide)

theorem transfer64_f32_bound (F : Transfer) {w : Word} {m : ℕ} (h : f32 w = .fin false m) (hm : 0 < m) :
    ∃ k, transfer64 F (fconvert b32 b64 (f32 w)) = .fin false k ∧
      |magReal k - transferReal F (m / 2 ^ 149)| ≤ 1 / 2 ^ 40 * transferReal F (m / 2 ^ 149) := by
  refine ⟨positiveMag F (m * 2 ^ unitGap), ?_, ?_⟩
  · rw [h, fconvert_f32 h, transfer64_pos F (Nat.mul_pos hm (Nat.two_pow_pos _))]
  · have hhigh : m * 2 ^ unitGap ≤ 2 ^ (128 + b64.unitExp) :=
      calc m * 2 ^ unitGap ≤ 2 ^ (128 + 149) * 2 ^ unitGap := Nat.mul_le_mul_right _ (f32_lt h).le
        _ = 2 ^ (128 + 149 + unitGap) := (pow_add ..).symm
        _ = 2 ^ (128 + b64.unitExp) := by rw [unitGap_eq, b64_unitExp]
    rw [← magReal_widened]
    exact abs_sub_le_of_withinBound (positiveMag_bound F _ (inNormalRange (Nat.le_mul_of_pos_left _ hm) hhigh))

/-! ### The order (R172 (2)) -/

theorem rises_of_le {F : Transfer} {a b : ℕ} (h : transferReal F (magReal a) ≤ transferReal F (magReal b)) : Rises F a b :=
  fun _ _ hd hle => (leTransfer_mag_iff F hd).2 (((leTransfer_mag_iff F hd).1 hle).trans h)

/-- Where the curve does not fall, the core does not: R172 (2) from 0 on. -/
theorem transfer64_mono (F : Transfer) {a b : ℕ} (hab : a ≤ b) (hb : b ≤ 2 ^ b64.unitExp)
    (h : transferReal F (magReal a) ≤ transferReal F (magReal b)) :
    ∃ j k, transfer64 F (.fin false a) = .fin false j ∧ transfer64 F (.fin false b) = .fin false k ∧ j ≤ k := by
  rcases Nat.eq_zero_or_pos b with rfl | hbpos
  · obtain rfl := Nat.le_zero.1 hab
    exact ⟨0, 0, transfer64_zero F _, transfer64_zero F _, le_rfl⟩
  rcases Nat.eq_zero_or_pos a with rfl | hapos
  · exact ⟨0, _, transfer64_zero F _, transfer64_pos F hbpos, Nat.zero_le _⟩
  · exact ⟨_, _, transfer64_pos F hapos, transfer64_pos F hbpos, positiveMag_mono F a b hab hb (rises_of_le h)⟩

/-- The curve does not fall from a to b in the cases in which R172 (2) is asked. -/
theorem transferReal_le_of_rises (F : Transfer) {a b : ℕ} (hab : a ≤ b)
    (h : F = .toLinear ∨ (a * 10000000 ≤ 31308 * 2 ^ b64.unitExp ↔ b * 10000000 ≤ 31308 * 2 ^ b64.unitExp) ∨
      transferReal F (magReal a) ≤ transferReal F (magReal b)) :
    transferReal F (magReal a) ≤ transferReal F (magReal b) := by
  have hmag : magReal a ≤ magReal b := div_le_div_of_nonneg_right (Nat.cast_le.2 hab) (by positivity)
  have hside (m : ℕ) : m * 10000000 ≤ 31308 * 2 ^ b64.unitExp ↔ magReal m ≤ 31308 / 10000000 := by
    rw [magReal_eq]
    exact mul_le_mul_iff_div_le_div (c := 31308) (d := 10000000) (Nat.two_pow_pos _) (by decide)
  rcases h with rfl | hsame | h
  · exact toLinearReal_mono (magReal_nonneg a) hmag
  · cases F
    · exact toLinearReal_mono (magReal_nonneg a) hmag
    · exact toSrgbReal_mono_of_same_side (magReal_nonneg a) hmag (by rwa [← hside, ← hside])
  · exact h

/-- Settles O39: `transfer64_f32_bound` for R172 (1) and (4), `transfer64_mono` for (2). -/
theorem scalarCoreWithinBound : Obligations.ScalarCoreWithinBound := by
  unfold Obligations.ScalarCoreWithinBound
  rw [← b64_unitExp]
  refine fun F => ⟨fun w m h hm => transfer64_f32_bound F h hm, fun v w a b hv hw hab hb h => ?_⟩
  rw [hv, hw]
  exact transfer64_mono F hab hb (transferReal_le_of_rises F hab h)

/-! ### The special and the negative values (R172 (3), (4)) -/

/-- An infinity and a zero go to themselves. -/
theorem convF_f32_of_fixed (F : Transfer) {w : Word} {n : Bool} (h : f32 w = .inf n ∨ f32 w = .fin n 0) :
    convF (f32 w) F = w := by
  have hfixed : convF (f32 w) F = canonBits32 (f32 w) := by
    rcases h with h | h <;> rw [h, convF]
    · rfl
    · simp only [fconvert, Nat.zero_mul, roundReal_zero, transfer64_zero]
  rw [hfixed]
  exact canonBits32_f32 (by rcases h with h | h <;> simp [h])

theorem convF_f32_negative (F : Transfer) {w : Word} {m : ℕ} (h : f32 w = .fin true m) (hm : 0 < m) :
    convF (f32 w) F = canonBits32 (fconvert b64 b32 (linearSegment F true (m * 2 ^ unitGap))) := by
  rw [convF, h, fconvert_f32 h, transfer64_neg F (Nat.mul_pos hm (Nat.two_pow_pos _))]

/-- Settles O40: `convF_f32_of_fixed` for infinities and zeros, `linearSegment` for negative values. -/
theorem scalarCoreSpecialValues : Obligations.ScalarCoreSpecialValues := by
  unfold Obligations.ScalarCoreSpecialValues
  rw [← unitGap_eq]
  refine fun F => ⟨canonBits32_nan, convF_f32_of_fixed F (n := false) (.inl (by decide)),
    convF_f32_of_fixed F (n := true) (.inl (by decide)), convF_f32_of_fixed F (n := false) (.inr (by decide)),
    convF_f32_of_fixed F (n := true) (.inr (by decide)), fun m hm => ?_, fun w m h hm => ?_⟩
  · rw [transfer64_neg F hm]
    cases F <;> rfl
  · rw [convF_f32_negative F h hm]
    cases F <;> rfl

end Sys2Proof.Machine

/-! SUPPORT. The LUT unit (41_srgb.md R177, R178): a LUT-reading command waits while LSTATE is not VALID, the sequencer
finishes, and every waiting command completes. -/

namespace Sys2Proof.Machine

/-! ### Waiting (R178) -/

theorem State.cur_waitLut (s : State) (i : Instr) (h : s.hasCtx s.issue.ctx = true) :
    (s.waitLut i).cur = s.cur.withCState (.waitLut s.issue.master i s.snapshot) := s.cur_setCur _ h

theorem State.startSequencer_seqCycle (s : State) :
    s.startSequencer.seqCycle = if s.lstate = .idle then 0 else s.seqCycle := by
  unfold State.startSequencer
  split <;> simp_all

theorem State.startSequencer_lstate_of_ne_valid {s : State} (h : s.lstate ≠ .valid) : s.startSequencer.lstate = .busy := by
  rw [s.startSequencer_lstate]
  cases hl : s.lstate with
  | idle => rfl
  | busy => rfl
  | valid => exact absurd hl h

theorem State.cur_startSequencer (s : State) : s.startSequencer.cur = s.cur := by
  rw [State.cur, State.startSequencer_issue, State.ctx_startSequencer, State.cur]

/-- Settles O35: the command starts the sequencer and waits (`computeLut_waits`). -/
theorem lutCommandsWait : Obligations.LutCommandsWait := by
  unfold Obligations.LutCommandsWait
  intro i hi s hs hv
  have hstart := s.cur_startSequencer
  have hframe := s.startSequencer_frame
  have hctx : s.startSequencer.hasCtx s.startSequencer.issue.ctx = true := by rw [hframe.hasCtx, hframe.issue]; exact hs.1
  have hsnap : s.startSequencer.snapshot = s.cur.operands := by
    rw [← s.snapshot_of_accepts hs, State.snapshot, State.snapshot, hstart]
  have hcur := s.startSequencer.cur_waitLut i hctx
  rw [hstart, hsnap, State.startSequencer_issue] at hcur
  refine ⟨s.startSequencer.waitLut i, (exec_of_mem_lutReaders hi s).trans (computeLut_waits i _ s hv),
    hframe.trans (s.startSequencer.waitLut_frame i hctx), State.startSequencer_lstate_of_ne_valid hv,
    s.startSequencer_seqCycle, ?_, ?_, ?_, ?_, s.startSequencer_responses⟩ <;> rw [hcur] <;> rfl

/-! ### A waiting command goes on -/

/-- t is s after the command i that waited in context c, for the master m on the snapshot o, has gone on and is done. -/
structure Resumed (s t : State) (c m : ℕ) (i : Instr) (o : Operands) : Prop where
  lstate : t.lstate = .valid
  lut : t.lut = LutStore.tables
  inputs : t.inputs = s.inputs
  count : t.contexts.length = s.contexts.length
  others : ∀ d, d ≠ c → t.ctx d = s.ctx d
  ready : (t.ctx c).cstate = .ready
  result : (t.ctx c).r = lutResult i LutStore.tables o
  responses : t.responses = .writeDone m :: s.responses

theorem resumeCommand_resumed {s : State} {c m : ℕ} {i : Instr} (hinv : PxaInv s) (hres : s.resumable = some (c, m, i)) :
    ∃ o t, (s.ctx c).cstate = .waitLut m i o ∧ resumeCommand c m i s = .next t ∧ Resumed s t c m i o := by
  obtain ⟨hvalid, hc, o, hw⟩ := State.resumable_some hres
  obtain ⟨hi, -⟩ := hinv.wait _ (s.ctx_mem c hc) m i o hw
  obtain ⟨t, ht, hdone, hr⟩ := computeLut_next i (lutResult i) (s.withIssue ⟨m, c, encode i⟩) hc hvalid
  have hlut := hinv.valid hvalid
  have hcur : t.cur = t.ctx c := by rw [State.cur, hdone.frame.issue]; rfl
  have hsnap : (s.withIssue ⟨m, c, encode i⟩).snapshot = o := by
    have hstate : (s.withIssue ⟨m, c, encode i⟩).cur.cstate = .waitLut m i o := hw
    rw [State.snapshot, hstate]
  refine ⟨o, t, hw, by rw [resumeCommand, exec_of_mem_lutReaders hi, ht], ?_⟩
  exact {
    lstate := hdone.lstate.trans hvalid
    lut := hdone.frame.lut.trans hlut
    inputs := hdone.frame.inputs
    count := hdone.frame.count
    others := hdone.frame.others
    ready := hcur ▸ hdone.cstate
    result := by rw [← hcur, hr, hsnap, State.withIssue_lut, hlut]
    responses := hdone.responses }

/-- With nothing on the bus a step is the sequencer's cycle and a waiting command going on, if one can. -/
theorem step_cases_of_inputs_nil {s : State} (hin : s.inputs = []) :
    (s.sequencerCycle.resumable = none ∧ step s = .next s.sequencerCycle) ∨
    (∃ c m i, s.sequencerCycle.resumable = some (c, m, i) ∧ step s = resumeCommand c m i s.sequencerCycle) := by
  have hpick : s.pick = none := by rw [State.pick, hin, State.pickFrom]
  rcases step_cases s with ⟨rest, hp, -⟩ | ⟨c, m, i, -, hres, hs⟩ | ⟨a, rest, htake, -⟩ | ⟨-, hres, hs⟩
  · cases hpick.symm.trans hp
  · exact .inr ⟨c, m, i, hres, hs⟩
  · cases hpick.symm.trans htake.1
  · exact .inl ⟨hres, hs⟩

/-- In a state with the invariant the command that goes on is done. -/
theorem step_of_inputs_nil {s : State} (hinv : PxaInv s) (hin : s.inputs = []) :
    (s.sequencerCycle.resumable = none ∧ step s = .next s.sequencerCycle) ∨
    (∃ c m i o t, (s.ctx c).cstate = .waitLut m i o ∧ step s = .next t ∧ Resumed s t c m i o) := by
  rcases step_cases_of_inputs_nil hin with ⟨hres, hs⟩ | ⟨c, m, i, hres, hs⟩
  · exact .inl ⟨hres, hs⟩
  · obtain ⟨o, t, hw, ht, hr⟩ := resumeCommand_resumed hinv.sequencerCycle hres
    rw [State.ctx_sequencerCycle] at hw
    refine .inr ⟨c, m, i, o, t, hw, hs.trans ht, ?_⟩
    exact {
      hr with
      inputs := by simpa using hr.inputs
      count := by simpa using hr.count
      others := by simpa using hr.others
      responses := by simpa using hr.responses }

theorem run_succ {s t : State} (n : ℕ) (h : step s = .next t) :
    Host.Core.run Sys2Proof.core (n + 1) s = Host.Core.run Sys2Proof.core n t := by
  have hcore : Sys2Proof.core.step s = .next t := h
  simp only [Host.Core.run, hcore]

/-! ### The sequencer finishes (R177) -/

/-- The step in which the sequencer runs its last cycle leaves the final tables, whether or not a command goes on in it. -/
theorem step_last_cycle {s : State} (hinv : PxaInv s) (hin : s.inputs = []) (hlstate : s.sequencerCycle.lstate = .valid)
    (hlut : s.sequencerCycle.lut = LutStore.tables) :
    ∃ t, step s = .next t ∧ t.lstate = .valid ∧ t.lut = LutStore.tables := by
  rcases step_of_inputs_nil hinv hin with ⟨-, hs⟩ | ⟨c, m, i, o, t, -, hs, hr⟩
  · exact ⟨_, hs, hlstate, hlut⟩
  · exact ⟨t, hs, hr.lstate, hr.lut⟩

/-- While the sequencer has cycles to go, a step with nothing on the bus is its cycle. -/
theorem step_inner_cycle {s : State} (hin : s.inputs = []) (hbusy : s.sequencerCycle.lstate = .busy) :
    step s = .next s.sequencerCycle := by
  rcases step_cases_of_inputs_nil hin with ⟨-, hs⟩ | ⟨c, m, i, hres, -⟩
  · exact hs
  · cases hbusy.symm.trans (State.resumable_some hres).1

theorem run_of_busy (k : ℕ) {s : State} (hinv : PxaInv s) (hbusy : s.lstate = .busy) (hin : s.inputs = [])
    (hk : Config.tInit - s.seqCycle = k + 1) :
    ∃ t, Host.Core.run Sys2Proof.core (k + 1) s = .next t ∧ t.lstate = .valid ∧ t.lut = LutStore.tables := by
  induction k generalizing s with
  | zero =>
    rcases s.sequencerCycle_cases with ⟨hb, -⟩ | ⟨-, hlt, -, -⟩ | ⟨-, -, hl, hlut⟩
    · exact absurd hbusy hb
    · omega
    · obtain ⟨t, hs, ht⟩ := step_last_cycle hinv hin hl hlut
      exact ⟨t, run_succ 0 hs, ht⟩
  | succ k ih =>
    rcases s.sequencerCycle_cases with ⟨hb, -⟩ | ⟨-, -, hl, hcyc⟩ | ⟨-, hle, -, -⟩
    · exact absurd hbusy hb
    · rw [run_succ _ (step_inner_cycle hin hl)]
      exact ih hinv.sequencerCycle hl (by simpa using hin) (by omega)
    · omega

/-- Settles O54, by induction on the cycles left. -/
theorem sequencerFinishes : Obligations.SequencerFinishes := by
  unfold Obligations.SequencerFinishes
  intro s hinv hbusy hin
  have hlt := hinv.busy hbusy
  obtain ⟨k, hk⟩ := Nat.exists_eq_succ_of_ne_zero (show Config.tInit - s.seqCycle ≠ 0 by omega)
  rw [hk]
  exact run_of_busy k hinv hbusy hin hk

/-! ### Every waiting command completes (R178, 60_exceptions.md R274) -/

/-- The cycles the sequencer has to run before its last one, in which the first waiting command goes on. -/
def State.cyclesBeforeLast (s : State) : ℕ := if s.lstate = .busy then Config.tInit - s.seqCycle - 1 else 0

/-- The contexts that wait. -/
def State.waitingCtxs (s : State) : Finset ℕ := {c ∈ Finset.range s.contexts.length | (s.ctx c).cstate ≠ .ready}

theorem State.mem_waitingCtxs {s : State} {c : ℕ} :
    c ∈ s.waitingCtxs ↔ c < s.contexts.length ∧ (s.ctx c).cstate ≠ .ready := by
  simp [State.waitingCtxs]

/-- A context that waits is one of the N_CTX: an absent one reads as after reset. -/
theorem State.mem_waitingCtxs_of_waitLut {s : State} {c m : ℕ} {i : Instr} {o : Operands}
    (hw : (s.ctx c).cstate = .waitLut m i o) : c ∈ s.waitingCtxs := by
  refine State.mem_waitingCtxs.2 ⟨?_, by simp [hw]⟩
  by_contra hc
  rw [State.ctx, List.getD_eq_default _ _ (Nat.le_of_not_lt hc)] at hw
  cases hw

theorem State.waitingCtxs_congr {s t : State} (h : t.contexts = s.contexts) : t.waitingCtxs = s.waitingCtxs := by
  ext c
  rw [State.mem_waitingCtxs, State.mem_waitingCtxs, s.ctx_congr t c h, h]

/-- A command that goes on leaves its context no longer waiting and the others as they are. -/
theorem Resumed.waitingCtxs {s t : State} {c m : ℕ} {i : Instr} {o : Operands} (h : Resumed s t c m i o) :
    t.waitingCtxs = s.waitingCtxs.erase c := by
  ext d
  rw [Finset.mem_erase, State.mem_waitingCtxs, State.mem_waitingCtxs, h.count]
  by_cases hd : d = c
  · subst hd
    simp [h.ready]
  · simp [hd, h.others d hd]

/-- While a context waits and none can go on, the sequencer has run one of the cycles it had to go. -/
theorem cyclesBeforeLast_sequencerCycle {s : State} (hinv : PxaInv s) {c : ℕ} (hc : c ∈ s.waitingCtxs)
    (hres : s.sequencerCycle.resumable = none) :
    s.sequencerCycle.cyclesBeforeLast + 1 = s.cyclesBeforeLast := by
  obtain ⟨hlt, hwait⟩ := State.mem_waitingCtxs.1 hc
  have hmem := s.ctx_mem c ((s.hasCtx_iff c).2 hlt)
  have hnot_valid : s.sequencerCycle.lstate ≠ .valid := by
    intro hv
    rw [State.resumable, hv, State.sequencerCycle_contexts] at hres
    exact hwait (firstWaiting_none hres _ hmem)
  rcases s.sequencerCycle_cases with ⟨hb, hs⟩ | ⟨hb, hcyc, hl, hsucc⟩ | ⟨-, -, hl, -⟩
  · rw [hs] at hnot_valid
    cases hl : s.lstate with
    | idle => exact absurd (hinv.idle hl _ hmem) hwait
    | busy => exact absurd hl hb
    | valid => exact absurd hl hnot_valid
  · rw [State.cyclesBeforeLast, State.cyclesBeforeLast, if_pos hl, if_pos hb, hsucc]
    omega
  · exact absurd hl hnot_valid

/-- The command i that waits in context c, for the master m on the snapshot o, completes within N steps: the context is
unchanged until the step that completes it and answers m. -/
def WaitEnds (N : ℕ) (s : State) (c m : ℕ) (i : Instr) (o : Operands) : Prop :=
  ∃ n u t l, n < N ∧ Host.Core.run Sys2Proof.core n s = .next u ∧ u.ctx c = s.ctx c ∧
    u.responses = l ++ s.responses ∧ step u = .next t ∧ (t.ctx c).cstate = .ready ∧
    (t.ctx c).r = lutResult i LutStore.tables o ∧ t.responses = .writeDone m :: u.responses

theorem WaitEnds.of_resumed {N : ℕ} {s t : State} {c m : ℕ} {i : Instr} {o : Operands} (hs : step s = .next t)
    (h : Resumed s t c m i o) : WaitEnds (N + 1) s c m i o :=
  ⟨0, s, t, [], N.succ_pos, rfl, rfl, rfl, hs, h.ready, h.result, h.responses⟩

theorem WaitEnds.of_step {N : ℕ} {s s' : State} {c m : ℕ} {i : Instr} {o : Operands} (hs : step s = .next s')
    (hctx : s'.ctx c = s.ctx c) (hresp : ∃ l, s'.responses = l ++ s.responses) (h : WaitEnds N s' c m i o) :
    WaitEnds (N + 1) s c m i o := by
  obtain ⟨l', hl'⟩ := hresp
  obtain ⟨n, u, t, l, hn, hrun, hu, hl, ht⟩ := h
  exact ⟨n + 1, u, t, l ++ l', Nat.succ_lt_succ hn, (run_succ n hs).trans hrun, hu.trans hctx,
    by rw [hl, hl', List.append_assoc], ht⟩

/-- Each step before the last runs the sequencer or completes the command of another context. -/
theorem waitEnds (N : ℕ) {s : State} {c m : ℕ} {i : Instr} {o : Operands} (hinv : PxaInv s) (hin : s.inputs = [])
    (hw : (s.ctx c).cstate = .waitLut m i o) (hN : s.cyclesBeforeLast + s.waitingCtxs.card ≤ N) : WaitEnds N s c m i o := by
  induction N generalizing s with
  | zero =>
    have := Finset.card_pos.2 ⟨c, State.mem_waitingCtxs_of_waitLut hw⟩
    omega
  | succ N ih =>
    rcases step_of_inputs_nil hinv hin with ⟨hres, hs⟩ | ⟨c', m', i', o', t, hw', hs, hr⟩
    · have hcycles := cyclesBeforeLast_sequencerCycle hinv (State.mem_waitingCtxs_of_waitLut hw) hres
      refine .of_step hs (s.ctx_sequencerCycle c) ⟨[], by simp⟩
        (ih hinv.sequencerCycle (by simpa using hin) (by simpa using hw) ?_)
      rw [State.waitingCtxs_congr s.sequencerCycle_contexts]
      omega
    · by_cases hc : c = c'
      · subst hc
        obtain ⟨rfl, rfl, rfl⟩ := CState.waitLut.inj (hw.symm.trans hw')
        exact .of_resumed hs hr
      · refine .of_step hs (hr.others c hc) ⟨[.writeDone m'], hr.responses⟩
          (ih (hinv.step hs) (hr.inputs.trans hin) (by rwa [hr.others c hc]) ?_)
        have hcard := Finset.card_erase_lt_of_mem (State.mem_waitingCtxs_of_waitLut hw')
        rw [State.cyclesBeforeLast, if_neg (by simp [hr.lstate]), hr.waitingCtxs]
        omega

/-- Settles O55: the cycles left and the contexts that wait bound the steps (`waitEnds`). -/
theorem waitingCommandCompletes : Obligations.WaitingCommandCompletes := by
  unfold Obligations.WaitingCommandCompletes
  intro s c m i o hinv hin hw
  refine waitEnds (Config.tInit + 15) hinv hin hw (Nat.add_le_add ?_ ?_)
  · unfold State.cyclesBeforeLast
    split <;> omega
  · exact (Finset.card_filter_le _ _).trans ((Finset.card_range _).trans_le hinv.count.2)

end Sys2Proof.Machine

/-! SUPPORT. The colour commands of 42_color.md R210-R219: PREMUL, DEMUL, GRAD and ADD complete with the rules' results, the
round trip of PREMUL and DEMUL, and the GRAD fraction of every pattern. -/

namespace Sys2Proof.Machine

/-! ### The alpha of a shape on integer lanes (30_encoding.md R103, 92 D23) -/

/-- The alpha that PREMUL, DEMUL and ADD go by: lane 3, or the full alpha where the shape has none. -/
def shapeAlpha (W : ℕ) (sh : Shape) (l : Lanes) : ℕ := if hasAlpha sh then chan W l 3 else maxW W

theorem shapeAlpha_of_hasAlpha {sh : Shape} (h : hasAlpha sh = true) (W : ℕ) (l : Lanes) : shapeAlpha W sh l = chan W l 3 :=
  if_pos h

theorem shapeAlpha_rgb (W : ℕ) (l : Lanes) : shapeAlpha W .rgb l = maxW W := rfl

theorem premulInt_eq (W : ℕ) (sh : Shape) (o : Operands) : premulInt W sh o =
    byShape sh (fun j => out (premulChannel W (chan W o.a j) (shapeAlpha W sh o.a))) (out (chan W o.a 3)) := rfl

theorem demulInt_eq (W : ℕ) (sh : Shape) (o : Operands) : demulInt W sh o =
    byShape sh (fun j => out (demulChannel W (chan W o.a j) (shapeAlpha W sh o.a))) (out (chan W o.a 3)) := rfl

/-! ### PREMUL and DEMUL on integers (R210, R212) -/

theorem demulChannel_zero (W c : ℕ) : demulChannel W c 0 = 0 := if_pos rfl

theorem maxW_ne_zero {W : ℕ} (hW : 0 < W) : maxW W ≠ 0 := by
  have := maxW_pos hW
  omega

theorem premulChannel_maxW {W : ℕ} (hW : 0 < W) (c : ℕ) : premulChannel W c (maxW W) = c := by
  rw [premulChannel, if_neg (maxW_ne_zero hW), if_pos rfl]

theorem demulChannel_maxW {W : ℕ} (hW : 0 < W) (c : ℕ) : demulChannel W c (maxW W) = c := by
  rw [demulChannel, if_neg (maxW_ne_zero hW), if_pos rfl]

/-- R212 needs no case of its own for the full alpha: the quotient by it is the channel. -/
theorem demulChannel_eq {W c al : ℕ} (hW : 0 < W) (hc : c ≤ maxW W) :
    demulChannel W c al = if al = 0 then 0 else min (c * maxW W / al) (maxW W) := by
  by_cases hal : al = maxW W
  · rw [hal, demulChannel_maxW hW, if_neg (maxW_ne_zero hW), Nat.mul_div_cancel _ (Nat.pos_of_ne_zero (maxW_ne_zero hW)),
      min_eq_left hc]
  · rw [demulChannel, if_neg hal]

theorem demulChannel_le_maxW {W c al : ℕ} (hW : 0 < W) (hc : c ≤ maxW W) : demulChannel W c al ≤ maxW W := by
  rw [demulChannel_eq hW hc]
  split_ifs
  · exact Nat.zero_le _
  · exact min_le_right _ _

section IntColour

variable {W : ℕ} (hW : W ∈ [8, 16])
include hW

/-- R210's three cases are one rounded product. -/
theorem premulChannel_eq_roundedProduct {c al : ℕ} (hc : c ≤ maxW W) (hal : al ≤ maxW W) :
    premulChannel W c al = roundedProduct W c al := by
  obtain ⟨-, hzero, hfull, -, -, hround⟩ := mulKernelLaws W hW c c al hc hc hal
  rw [← hround, premulChannel]
  split_ifs with h0 hmax
  · rw [h0, hzero]
  · rw [hmax, hfull]
  · rfl

theorem roundedProduct_maxW {c : ℕ} (hc : c ≤ maxW W) : roundedProduct W c (maxW W) = c := by
  rw [← premulChannel_eq_roundedProduct hW hc le_rfl, premulChannel_maxW (pos_of_mem_widths hW)]

theorem roundedProduct_le_maxW {c al : ℕ} (hc : c ≤ maxW W) (hal : al ≤ maxW W) : roundedProduct W c al ≤ maxW W := by
  rw [← mulW_eq_roundedProduct (pos_of_mem_widths hW) hc hal]
  exact (mulW_le_left (pos_of_mem_widths hW) hc hal).trans hc

variable (o : Operands)

theorem lanesAre_premulInt {sh : Shape} (hsh : hasAlpha sh = true) : LanesAre (premulInt W sh o) fun j =>
    if isValueLane sh j then roundedProduct W (chan W o.a j) (chan W o.a 3)
    else if isAlphaLane sh j then chan W o.a 3 else 0 := by
  rw [premulInt_eq, shapeAlpha_of_hasAlpha hsh]
  refine lanesAre_byShape (fun j => ?_) (out_chan_toNat hW o.a 3)
  have hc := chan_le_maxW W o.a j
  have hal := chan_le_maxW W o.a 3
  rw [premulChannel_eq_roundedProduct hW hc hal, out_toNat_of_le_maxW hW (roundedProduct_le_maxW hW hc hal)]

theorem lanesAre_premulInt_rgb : LanesAre (premulInt W .rgb o) fun j =>
    if isValueLane .rgb j then chan W o.a j else if isAlphaLane .rgb j then chan W o.a 3 else 0 := by
  rw [premulInt_eq, shapeAlpha_rgb]
  refine lanesAre_byShape (fun j => ?_) (out_chan_toNat hW o.a 3)
  rw [premulChannel_maxW (pos_of_mem_widths hW), out_chan_toNat hW]

theorem lanesAre_demulInt {sh : Shape} (hsh : hasAlpha sh = true) : LanesAre (demulInt W sh o) fun j =>
    if isValueLane sh j then (if chan W o.a 3 = 0 then 0 else min (chan W o.a j * maxW W / chan W o.a 3) (maxW W))
    else if isAlphaLane sh j then chan W o.a 3 else 0 := by
  rw [demulInt_eq, shapeAlpha_of_hasAlpha hsh]
  refine lanesAre_byShape (fun j => ?_) (out_chan_toNat hW o.a 3)
  have hc := chan_le_maxW W o.a j
  rw [out_toNat_of_le_maxW hW (demulChannel_le_maxW (pos_of_mem_widths hW) hc), demulChannel_eq (pos_of_mem_widths hW) hc]

theorem lanesAre_demulInt_rgb : LanesAre (demulInt W .rgb o) fun j =>
    if isValueLane .rgb j then chan W o.a j else if isAlphaLane .rgb j then chan W o.a 3 else 0 := by
  rw [demulInt_eq, shapeAlpha_rgb]
  refine lanesAre_byShape (fun j => ?_) (out_chan_toNat hW o.a 3)
  rw [demulChannel_maxW (pos_of_mem_widths hW), out_chan_toNat hW]

end IntColour

/-- Settles O41: each form computes `premulInt` of its width and shape. -/
theorem premulInt_completes : Obligations.PremulInt := by
  unfold Obligations.PremulInt
  exact ⟨.of_compute (fun _ => rfl) fun o => lanesAre_premulInt (W := 8) (by decide) o (sh := .ga) rfl,
    .of_compute (fun _ => rfl) (lanesAre_premulInt_rgb (W := 8) (by decide)),
    .of_compute (fun _ => rfl) fun o => lanesAre_premulInt (W := 8) (by decide) o (sh := .rgba) rfl,
    .of_compute (fun _ => rfl) fun o => lanesAre_premulInt (W := 16) (by decide) o (sh := .ga) rfl,
    .of_compute (fun _ => rfl) (lanesAre_premulInt_rgb (W := 16) (by decide)),
    .of_compute (fun _ => rfl) fun o => lanesAre_premulInt (W := 16) (by decide) o (sh := .rgba) rfl⟩

/-- Settles O42: each form computes `demulInt` of its width and shape. -/
theorem demulInt_completes : Obligations.DemulInt := by
  unfold Obligations.DemulInt
  exact ⟨.of_compute (fun _ => rfl) fun o => lanesAre_demulInt (W := 8) (by decide) o (sh := .ga) rfl,
    .of_compute (fun _ => rfl) (lanesAre_demulInt_rgb (W := 8) (by decide)),
    .of_compute (fun _ => rfl) fun o => lanesAre_demulInt (W := 8) (by decide) o (sh := .rgba) rfl,
    .of_compute (fun _ => rfl) fun o => lanesAre_demulInt (W := 16) (by decide) o (sh := .ga) rfl,
    .of_compute (fun _ => rfl) (lanesAre_demulInt_rgb (W := 16) (by decide)),
    .of_compute (fun _ => rfl) fun o => lanesAre_demulInt (W := 16) (by decide) o (sh := .rgba) rfl⟩

/-! ### The round trip (R219) -/

/-- Above the threshold a premultiplied channel is off by at most half a unit of max_W, which is less than two alphas up and
at most one alpha down, so that the quotient is off by at most 1. -/
theorem demulChannel_within_one {W c al p : ℕ} (hW : 0 < W) (hc : c ≤ maxW W) (hp : p ≤ maxW W) (hal : 0 < al)
    (hlow : c * al ≤ p * maxW W + al) (hhigh : p * maxW W < c * al + 2 * al) :
    demulChannel W p al ≤ c + 1 ∧ c ≤ demulChannel W p al + 1 := by
  have hquot : p * maxW W / al < c + 2 := (Nat.div_lt_iff_lt_mul hal).2 (by rw [add_mul]; exact hhigh)
  have hquot' : c - 1 ≤ p * maxW W / al := (Nat.le_div_iff_mul_le hal).2 (by rw [Nat.sub_mul]; omega)
  rw [demulChannel_eq hW hp, if_neg hal.ne']
  omega

theorem roundedProduct_bounds {W : ℕ} (hW : 0 < W) (c al : ℕ) :
    2 * (roundedProduct W c al * maxW W) < 2 * (c * al) + maxW W ∧
      2 * (c * al) < 2 * (roundedProduct W c al * maxW W) + maxW W := by
  obtain ⟨hlt, hgt⟩ := nearestQuot_iff.1 (nearestLerp_iff.1 (nearestLerp_roundedProduct hW c al))
  simp only [Nat.cast_zero, sub_zero] at hlt hgt
  rw [mul_comm (maxW W : ℤ)] at hlt hgt
  exact ⟨by exact_mod_cast hlt, by exact_mod_cast hgt⟩

/-- PREMUL's rounding is known, so that the two bounds of `demulChannel_within_one` are left to check at each width. -/
theorem roundTrip_of_bounds {W c al : ℕ} (hW : W ∈ [8, 16]) (hc : c ≤ maxW W) (hal : 0 < al) (hmax : al ≤ maxW W)
    (h : ∀ p, 2 * (p * maxW W) < 2 * (c * al) + maxW W → 2 * (c * al) < 2 * (p * maxW W) + maxW W →
      c * al ≤ p * maxW W + al ∧ p * maxW W < c * al + 2 * al) :
    demulChannel W (premulChannel W c al) al ≤ c + 1 ∧ c ≤ demulChannel W (premulChannel W c al) al + 1 := by
  obtain ⟨hlt, hgt⟩ := roundedProduct_bounds (pos_of_mem_widths hW) c al
  obtain ⟨hlow, hhigh⟩ := h _ hlt hgt
  rw [premulChannel_eq_roundedProduct hW hc hmax]
  exact demulChannel_within_one (pos_of_mem_widths hW) hc (roundedProduct_le_maxW hW hc hmax) hal hlow hhigh

/-- Settles O44. From half of max_W on the alpha is at least the rounding error of the product; for the two alphas below that
the error is a multiple of the alpha's common divisor with max_W (5 and 3), which brings it down to the alpha. -/
theorem premulDemulRoundTrip : Obligations.PremulDemulRoundTrip := by
  unfold Obligations.PremulDemulRoundTrip
  refine ⟨fun c al hc hlow hhigh => ?_, fun c al hc hlow hhigh => ?_, fun W c => demulChannel_zero W _⟩
  · refine roundTrip_of_bounds (by decide) hc (by omega) hhigh fun p hlt hgt => ?_
    rw [show maxW 8 = 255 from rfl] at *
    rcases (by omega : al = 125 ∨ al = 126 ∨ 127 ≤ al) with rfl | rfl | hal <;> omega
  · refine roundTrip_of_bounds (by decide) hc (by omega) hhigh fun p hlt hgt => ?_
    rw [show maxW 16 = 65535 from rfl] at *
    rcases (by omega : al = 32765 ∨ al = 32766 ∨ 32767 ≤ al) with rfl | rfl | hal <;> omega

/-! ### Rounding a magnitude: scaling, exactness, error -/

theorem roundNat_scale (num den : ℕ) {k : ℕ} (hk : 0 < k) : roundNat (num * k) (den * k) = roundNat num den := by
  have hlt : den * k < 2 * (num % den * k) ↔ den < 2 * (num % den) := by
    rw [← Nat.mul_assoc, Nat.mul_lt_mul_right hk]
  have heq : 2 * (num % den * k) = den * k ↔ 2 * (num % den) = den := by
    rw [← Nat.mul_assoc, Nat.mul_left_inj hk.ne']
  simp only [roundNat, Nat.mul_mod_mul_right, Nat.mul_div_mul_right _ _ hk, hlt, heq]

/-- Rounding depends on the quotient alone. -/
theorem roundMag_scale (f : FloatFmt) (num den : ℕ) {k : ℕ} (hk : 0 < k) :
    roundMag f (num * k) (den * k) = roundMag f num den := by
  have hshift : roundShift f (num * k) (den * k) = roundShift f num den := by
    rw [roundShift, Nat.mul_div_mul_right _ _ hk, roundShift]
  rw [roundMag_eq, roundMag_eq, hshift, Nat.mul_right_comm, roundNat_scale _ _ hk]

theorem roundMag_of_representable {f : FloatFmt} {m : ℕ} (hm : Representable f m) : roundMag f m 1 = m := by
  have hnear := (roundMag_nearest f m one_pos hm).1
  rw [Nat.cast_one, mul_one, mul_one, sub_self, abs_zero, abs_nonpos_iff, sub_eq_zero] at hnear
  exact_mod_cast hnear

/-- The error of rounding is half a unit in the last place: below 2^(fracBits + 1 + e) the grid is no coarser than 2^e. -/
theorem roundMag_error {f : FloatFmt} {num e : ℕ} (h : num < 2 ^ (f.fracBits + 1 + e)) :
    2 * |(roundMag f num 1 : ℤ) - num| ≤ (2 ^ e : ℕ) := by
  have hshift : roundShift f num 1 ≤ e := by
    rcases Nat.eq_zero_or_pos num with rfl | hnum
    · simp [roundShift]
    · have hlog := (Nat.log2_lt hnum.ne').2 h
      rw [roundShift, Nat.div_one]
      omega
  have herr := (roundNat_error num (den := 1 * 2 ^ roundShift f num 1) (by positivity)).1
  rw [roundMag_eq, Nat.cast_mul]
  rw [Nat.one_mul] at herr ⊢
  exact herr.trans (by exact_mod_cast Nat.pow_le_pow_right two_pos hshift)

/-! ### The clamped fraction (R214) -/

/-- x is a finite value from 0 to 1; it may be -0. -/
def UnitFraction (f : FloatFmt) (x : FVal) : Prop := ∃ n m, x = .fin n m ∧ m ≤ 2 ^ f.unitExp ∧ (n = true → m = 0)

theorem clampFraction_of_nan_or_belowZero {k : FVal} (h : k = .nan ∨ belowZero k = true) :
    clampFraction k = .fin false 0 := by
  rcases h with rfl | h
  · rfl
  · rw [clampFraction, if_pos h, ite_self]

theorem clampFraction_of_inside {k : FVal} (hnan : k ≠ .nan) (hneg : belowZero k = false) (hone : aboveOne b64 k = false) :
    clampFraction k = k := by
  rw [clampFraction, if_neg hnan, hneg, hone, if_neg Bool.false_ne_true, if_neg Bool.false_ne_true]

theorem not_low_of_aboveOne {f : FloatFmt} {a : FVal} (h : aboveOne f a = true) : a ≠ .nan ∧ belowZero a = false := by
  rcases a with _ | (_ | _) | ⟨_ | _, m⟩
  case inf.false => exact ⟨by simp, rfl⟩
  case fin.false => exact ⟨by simp, rfl⟩
  all_goals cases h

theorem clampFraction_of_one_le {k : FVal} (h : aboveOne b64 k = true ∨ k = fone b64) : clampFraction k = fone b64 := by
  rcases h with h | rfl
  · obtain ⟨hnan, hneg⟩ := not_low_of_aboveOne h
    rw [clampFraction, if_neg hnan, hneg, if_neg Bool.false_ne_true, if_pos h]
  · exact clampFraction_of_inside (by simp [fone]) rfl (by simp [aboveOne, fone])

theorem aboveOne_fin_false (f : FloatFmt) (m : ℕ) : aboveOne f (.fin false m) = decide (2 ^ f.unitExp < m) := rfl

theorem clampFraction_of_fin {n : Bool} {m : ℕ} (hneg : belowZero (.fin n m) = false) (hm : m ≤ 2 ^ b64.unitExp) :
    clampFraction (.fin n m) = .fin n m := by
  refine clampFraction_of_inside (by simp) hneg ?_
  cases n
  · rw [aboveOne_fin_false, decide_eq_false hm.not_gt]
  · rfl

theorem unitFraction_clampFraction (k : FVal) : UnitFraction b64 (clampFraction k) := by
  by_cases hlow : k = .nan ∨ belowZero k = true
  · exact ⟨false, 0, clampFraction_of_nan_or_belowZero hlow, Nat.zero_le _, fun _ => rfl⟩
  by_cases hone : aboveOne b64 k = true
  · exact ⟨false, _, clampFraction_of_one_le (.inl hone), le_rfl, fun h => by cases h⟩
  obtain ⟨hnan, hneg⟩ := not_or.1 hlow
  rw [Bool.not_eq_true] at hneg hone
  rw [clampFraction_of_inside hnan hneg hone]
  rcases k with _ | (_ | _) | ⟨_ | _, m⟩
  · exact absurd rfl hnan
  · cases hone
  · cases hneg
  · exact ⟨false, m, rfl, Nat.le_of_not_lt (of_decide_eq_false (aboveOne_fin_false b64 m ▸ hone)), fun h => by cases h⟩
  · obtain rfl : m = 0 := by simpa [belowZero] using hneg
    exact ⟨true, 0, rfl, Nat.zero_le _, fun _ => rfl⟩

/-- A conversion keeps a fraction between 0 and 1, and the sign of a zero. -/
theorem UnitFraction.fconvert {f g : FloatFmt} (hg : 2 ^ g.unitExp < overflowMag g) {x : FVal} (h : UnitFraction f x) :
    UnitFraction g (fconvert f g x) := by
  obtain ⟨n, m, rfl, hm, hn⟩ := h
  have hle : roundMag g (m * 2 ^ g.unitExp) (2 ^ f.unitExp) ≤ 2 ^ g.unitExp :=
    roundMag_le_of_representable (Nat.two_pow_pos _) (representable_two_pow g _)
      (Nat.mul_comm m _ ▸ Nat.mul_le_mul_left _ hm)
  refine ⟨n, _, roundReal_of_lt n (hle.trans_lt hg), hle, fun ht => ?_⟩
  rw [hn ht, Nat.zero_mul, roundMag_zero]

theorem fconvert_fone : fconvert b64 b32 (fone b64) = fone b32 := by
  rw [fone, fconvert, Nat.mul_comm]
  exact roundReal_exact false (Nat.two_pow_pos _) (representable_two_pow b32 _) (two_pow_lt_overflowMag (by decide))

theorem fconvert_zero (f g : FloatFmt) (n : Bool) : fconvert f g (.fin n 0) = .fin n 0 := by
  rw [fconvert, Nat.zero_mul, roundReal_zero]

/-! ### The integer fraction ik (R214) -/

/-- rn64(k · max_W) of the fraction k of m units, in units. -/
def scaledMag (W m : ℕ) : ℕ := roundMag b64 (m * maxW W) 1

/-- rn64(rn64(k · max_W) + 0.5), in units. -/
def raisedMag (W m : ℕ) : ℕ := roundMag b64 (scaledMag W m + 2 ^ (b64.unitExp - 1)) 1

/-- ik of the fraction k of m units: `gradInt_of_clampFraction` ties it to the model. -/
def ikOfMag (W m : ℕ) : ℕ := raisedMag W m / 2 ^ b64.unitExp

theorem maxW_lt_of_mem_widths {W : ℕ} (hW : W ∈ [8, 16]) : maxW W < 2 ^ 16 := by
  simp only [List.mem_cons, List.not_mem_nil, or_false] at hW
  rcases hW with rfl | rfl <;> decide

theorem unit_eq_two_mul_half : 2 ^ b64.unitExp = 2 * 2 ^ (b64.unitExp - 1) :=
  (mul_pow_sub_one (by decide) 2).symm

/-- An addend that is not below zero and may be -0. -/
theorem fadd_of_nonneg (f : FloatFmt) {n : Bool} {p : ℕ} (q : ℕ) (hn : n = true → p = 0) :
    fadd f (.fin n p) (.fin false q) = roundReal f false (p + q) 1 := by
  cases n with
  | false => rw [fadd, if_pos rfl]
  | true =>
    rw [hn rfl, Nat.zero_add, fadd, if_neg (by decide)]
    split_ifs with hq hlt
    · rw [← hq, roundReal_zero]
    · omega
    · rw [Nat.sub_zero]

/-- Where p and then r, for p + 1/2, are rounded with errors of at most E/2, the floor of r is at most H + E off. Here 1.0 is
U = 2H. -/
theorem abs_floor_sub_le {U H E x p r : ℕ} (hU : U = 2 * H) (hpos : 0 < U) (hp : 2 * |(p : ℤ) - x| ≤ E)
    (hr : 2 * |(r : ℤ) - (p + H : ℕ)| ≤ E) : |((r / U * U : ℕ) : ℤ) - x| ≤ H + E := by
  have hdiv := Nat.div_add_mod' r U
  have hmod := Nat.mod_lt r hpos
  obtain ⟨hp1, hp2⟩ := abs_le.1 (show |(p : ℤ) - x| ≤ E / 2 by omega)
  obtain ⟨hr1, hr2⟩ := abs_le.1 (show |(r : ℤ) - (p + H : ℕ)| ≤ E / 2 by omega)
  rw [abs_le]
  omega

/-- The same on rationals, where 1.0 is U = 2^37 E: the error is at most 1/2 + 2^-37. -/
theorem abs_sub_div_le_of_units {i x U H E : ℕ} (hU : U = 2 * H) (hE : U = 2 ^ 37 * E) (hpos : 0 < U)
    (h : |((i * U : ℕ) : ℤ) - x| ≤ H + E) : |(i : ℚ) - x / U| ≤ 1 / 2 + 1 / 2 ^ 36 := by
  have hpos' : (0 : ℚ) < U := by exact_mod_cast hpos
  have hunits : |(i * U : ℚ) - x| ≤ H + E := by exact_mod_cast h
  have hU' : (U : ℚ) = 2 * H := by exact_mod_cast hU
  have hE' : (U : ℚ) = 2 ^ 37 * E := by exact_mod_cast hE
  have hscale : (i : ℚ) - x / U = (i * U - x) / U := by field_simp
  rw [hscale, abs_div, abs_of_pos hpos', div_le_iff₀ hpos']
  linarith

section GradInt

variable {W : ℕ} (hW : W ∈ [8, 16])
include hW

/-- Both are multiples of a power of two by a number of fewer than 53 bits. -/
theorem representable_maxW_mul (e : ℕ) : Representable b64 (maxW W * 2 ^ e) := by
  have hmax := maxW_lt_of_mem_widths hW
  exact ⟨_, _, hmax.trans (by decide), rfl⟩

theorem representable_half_steps (e : ℕ) : Representable b64 ((2 * maxW W + 1) * 2 ^ e) := by
  have hmax := maxW_lt_of_mem_widths hW
  have h53 : 2 ^ 17 < 2 ^ (b64.fracBits + 1) := by decide
  exact ⟨_, _, by omega, rfl⟩

theorem half_steps_lt : (2 * maxW W + 1) * 2 ^ (b64.unitExp - 1) < 2 ^ (b64.unitExp + 16) := by
  have hmax := maxW_lt_of_mem_widths hW
  have hexp : b64.unitExp + 16 = 17 + (b64.unitExp - 1) := by decide
  rw [hexp, pow_add]
  exact Nat.mul_lt_mul_of_pos_right (by omega) (Nat.two_pow_pos _)

variable {m : ℕ} (hm : m ≤ 2 ^ b64.unitExp)
include hm

theorem scaledMag_le : scaledMag W m ≤ maxW W * 2 ^ b64.unitExp :=
  roundMag_le_of_representable one_pos (representable_maxW_mul hW _)
    (by rw [Nat.mul_one, Nat.mul_comm]; exact Nat.mul_le_mul_left _ hm)

theorem scaledMag_add_half_le : scaledMag W m + 2 ^ (b64.unitExp - 1) ≤ (2 * maxW W + 1) * 2 ^ (b64.unitExp - 1) := by
  have hle := scaledMag_le hW hm
  rw [unit_eq_two_mul_half] at hle
  rw [add_mul, one_mul, Nat.mul_comm 2, Nat.mul_assoc]
  exact Nat.add_le_add_right hle _

theorem raisedMag_le : raisedMag W m ≤ (2 * maxW W + 1) * 2 ^ (b64.unitExp - 1) :=
  roundMag_le_of_representable one_pos (representable_half_steps hW _) (Nat.mul_one _ ▸ scaledMag_add_half_le hW hm)

theorem ikOfMag_le_maxW : ikOfMag W m ≤ maxW W := by
  have hle := raisedMag_le hW hm
  have hpos := Nat.two_pow_pos (b64.unitExp - 1)
  refine Nat.le_of_lt_succ ((Nat.div_lt_iff_lt_mul (Nat.two_pow_pos _)).2 (hle.trans_lt ?_))
  rw [unit_eq_two_mul_half, ← Nat.mul_assoc]
  exact Nat.mul_lt_mul_of_pos_right (by omega) hpos

theorem fmul_maxW (n : Bool) : fmul b64 (.fin n m) (ofNat64 (maxW W)) = .fin n (scaledMag W m) := by
  have hlt := (half_steps_lt hW).trans (two_pow_lt_overflowMag (f := b64) (by decide))
  have hscale : roundMag b64 (m * (maxW W * 2 ^ b64.unitExp)) (2 ^ b64.unitExp) = scaledMag W m := by
    have hscale := roundMag_scale b64 (m * maxW W) 1 (Nat.two_pow_pos b64.unitExp)
    rwa [Nat.one_mul, Nat.mul_assoc] at hscale
  have hsmall : scaledMag W m < overflowMag b64 :=
    (Nat.le_add_right _ _).trans_lt ((scaledMag_add_half_le hW hm).trans_lt hlt)
  rw [ofNat64, fmul, Bool.bne_false, roundReal_of_lt n (hscale ▸ hsmall), hscale]

/-- Neither the product nor the sum overflows, and a -0 adds as 0 does. -/
theorem floorVal_raised {n : Bool} (hn : n = true → m = 0) :
    floorVal (fadd b64 (fmul b64 (.fin n m) (ofNat64 (maxW W))) half64) = ikOfMag W m := by
  have hlt := (half_steps_lt hW).trans (two_pow_lt_overflowMag (f := b64) (by decide))
  have hzero (ht : n = true) : scaledMag W m = 0 := by rw [scaledMag, hn ht, Nat.zero_mul, roundMag_zero]
  rw [fmul_maxW hW hm, half64, fadd_of_nonneg b64 _ hzero, roundReal_of_lt false ((raisedMag_le hW hm).trans_lt hlt)]
  rfl

/-- In units: each rounding errs by at most half of 2^(unitExp - 37), the added half and the floor together by half of 1.0. -/
theorem abs_ikOfMag_mul_unit_sub_le : |((ikOfMag W m * 2 ^ b64.unitExp : ℕ) : ℤ) - (m * maxW W : ℕ)| ≤
    (2 ^ (b64.unitExp - 1) : ℕ) + (2 ^ (b64.unitExp - 37) : ℕ) := by
  have hgrid : b64.unitExp + 16 = b64.fracBits + 1 + (b64.unitExp - 37) := by decide
  have hprod : m * maxW W < 2 ^ (b64.unitExp + 16) := by
    rw [pow_add]
    exact Nat.mul_lt_mul_of_le_of_lt hm (maxW_lt_of_mem_widths hW) (Nat.two_pow_pos _)
  have hsum := (scaledMag_add_half_le hW hm).trans_lt (half_steps_lt hW)
  rw [hgrid] at hprod hsum
  have herr := roundMag_error hprod
  have herr' := roundMag_error hsum
  exact abs_floor_sub_le unit_eq_two_mul_half (Nat.two_pow_pos _) herr herr'

/-- Each of the two roundings errs by at most 2^-38, the added half and the floor together by at most 1/2. -/
theorem abs_ikOfMag_sub_le : |(ikOfMag W m : ℚ) - m / (2 ^ b64.unitExp : ℕ) * maxW W| ≤ 1 / 2 + 1 / 2 ^ 36 := by
  have herr : 2 ^ b64.unitExp = 2 ^ 37 * 2 ^ (b64.unitExp - 37) := (pow_mul_pow_sub 2 (by decide)).symm
  have hclose := abs_sub_div_le_of_units unit_eq_two_mul_half herr (Nat.two_pow_pos _) (abs_ikOfMag_mul_unit_sub_le hW hm)
  rwa [Nat.cast_mul, mul_div_right_comm] at hclose

end GradInt

/-- A fraction 0 leaves 1/2, whose floor is 0. -/
theorem ikOfMag_zero (W : ℕ) : ikOfMag W 0 = 0 := by
  rw [ikOfMag, raisedMag, scaledMag, Nat.zero_mul, roundMag_zero, Nat.zero_add,
    roundMag_of_representable (representable_two_pow b64 _)]
  exact Nat.div_eq_of_lt (Nat.pow_lt_pow_right one_lt_two (by decide))

/-- A fraction 1 gives max_W + 1/2 exactly. -/
theorem ikOfMag_one {W : ℕ} (hW : W ∈ [8, 16]) : ikOfMag W (2 ^ b64.unitExp) = maxW W := by
  have hsum : maxW W * 2 ^ b64.unitExp + 2 ^ (b64.unitExp - 1) = (2 * maxW W + 1) * 2 ^ (b64.unitExp - 1) := by
    rw [unit_eq_two_mul_half]
    ring
  have hpos := Nat.two_pow_pos (b64.unitExp - 1)
  rw [ikOfMag, raisedMag, scaledMag, Nat.mul_comm, roundMag_of_representable (representable_maxW_mul hW _), hsum,
    roundMag_of_representable (representable_half_steps hW _), unit_eq_two_mul_half, Nat.mul_div_mul_right _ _ hpos]
  omega

section Clamps

variable {W : ℕ} (hW : W ∈ [8, 16]) {k : FVal}
include hW

theorem gradInt_of_clampFraction {n : Bool} {m : ℕ} (hk : clampFraction k = .fin n m) : gradInt W k = ikOfMag W m := by
  obtain ⟨n', m', hk', hm, hn⟩ := unitFraction_clampFraction k
  obtain ⟨rfl, rfl⟩ := FVal.fin.inj (hk.symm.trans hk')
  rw [gradInt, hk, floorVal_raised hW hm hn]

theorem gradInt_le_maxW (k : FVal) : gradInt W k ≤ maxW W := by
  obtain ⟨n, m, hk, hm, -⟩ := unitFraction_clampFraction k
  rw [gradInt_of_clampFraction hW hk]
  exact ikOfMag_le_maxW hW hm

theorem gradInt_eq_zero (h : k = .nan ∨ belowZero k = true ∨ isZero k = true) : gradInt W k = 0 := by
  suffices hclamp : ∃ n, clampFraction k = .fin n 0 by
    obtain ⟨n, hclamp⟩ := hclamp
    rw [gradInt_of_clampFraction hW hclamp, ikOfMag_zero]
  rcases h with h | h | h
  · exact ⟨false, clampFraction_of_nan_or_belowZero (.inl h)⟩
  · exact ⟨false, clampFraction_of_nan_or_belowZero (.inr h)⟩
  · obtain ⟨n, m, rfl, hzero⟩ := (isZero_iff b64 k).1 h
    rw [finValue_eq_zero_iff] at hzero
    subst hzero
    exact ⟨n, clampFraction_of_fin (by cases n <;> rfl) (Nat.zero_le _)⟩

theorem gradInt_eq_maxW (h : aboveOne b64 k = true ∨ k = fone b64) : gradInt W k = maxW W := by
  rw [gradInt_of_clampFraction hW (clampFraction_of_one_le h), ikOfMag_one hW]

end Clamps

/-! ### The binary32 fraction kf (R214) -/

theorem gradF32_of_clampFraction {k x : FVal} (h : clampFraction k = x) : gradF32 k = fconvert b64 b32 x := by
  rw [gradF32, h]

theorem unitFraction_gradF32 (k : FVal) : UnitFraction b32 (gradF32 k) :=
  (unitFraction_clampFraction k).fconvert (two_pow_lt_overflowMag (by decide))

/-- Settles O46: the clamp decides the cases, and inside the range ik is `ikOfMag` of the magnitude. -/
theorem gradFractionClamps : Obligations.GradFractionClamps := by
  unfold Obligations.GradFractionClamps
  refine fun k => ⟨fun W hW => ⟨gradInt_eq_zero hW, gradInt_eq_maxW hW, gradInt_le_maxW hW _, fun n m hk hneg hm => ?_⟩,
    fun h => ?_, fun h => ?_, fun hnan hneg hone => ?_, unitFraction_gradF32 (f64 k)⟩
  · rw [hk] at hneg ⊢
    rw [← b64_unitExp] at hm ⊢
    rw [gradInt_of_clampFraction hW (clampFraction_of_fin hneg hm)]
    have hhalf : b64.unitExp - 1 = 1073 := rfl
    exact ⟨by rw [ikOfMag, raisedMag, scaledMag, hhalf], by exact_mod_cast abs_ikOfMag_sub_le hW hm⟩
  · rw [gradF32_of_clampFraction (clampFraction_of_nan_or_belowZero h), fconvert_zero]
  · rw [gradF32_of_clampFraction (clampFraction_of_one_le h), fconvert_fone]
  · exact gradF32_of_clampFraction (clampFraction_of_inside hnan hneg hone)

/-! ### GRAD on integers (R215) -/

theorem get_gradIntLanes (W : ℕ) (sh : Shape) (o : Operands) (j : LaneIx) : Lanes.get (gradIntLanes W sh o) j =
    if isUsedLane sh j then out (lerpW W (chan W o.a j) (chan W o.b j) (gradInt W (kF64 o))) else 0 := get_byUsed sh _ j

/-- ik is a channel value, so that R135 applies to the interpolation by it. -/
theorem nearestLerp_gradIntLanes {W : ℕ} (hW : W ∈ [8, 16]) (sh : Shape) (o : Operands) (j : LaneIx) :
    if isUsedLane sh j = true then
      NearestLerp W (chan W o.a j) (chan W o.b j) (gradInt W (kF64 o)) (Lanes.get (gradIntLanes W sh o) j).toNat
    else Lanes.get (gradIntLanes W sh o) j = 0 := by
  have hp := chan_le_maxW W o.a j
  have hq := chan_le_maxW W o.b j
  have hik := gradInt_le_maxW hW (kF64 o)
  have hle := (lerpW_between (pos_of_mem_widths hW) hp hq hik).2.trans (max_le hp hq)
  rw [get_gradIntLanes]
  split_ifs
  · rw [out_toNat_of_le_maxW hW hle]
    exact nearestLerp_lerpW (pos_of_mem_widths hW) hp hq hik
  · rfl

/-- Settles O45: each form computes `gradIntLanes` of its width and shape. -/
theorem gradIntIsNearest : Obligations.GradIntIsNearest := by
  unfold Obligations.GradIntIsNearest
  exact ⟨.of_compute (fun _ => rfl) (nearestLerp_gradIntLanes (W := 8) (by decide) .v4),
    .of_compute (fun _ => rfl) (nearestLerp_gradIntLanes (W := 8) (by decide) .ga),
    .of_compute (fun _ => rfl) (nearestLerp_gradIntLanes (W := 8) (by decide) .rgb),
    .of_compute (fun _ => rfl) (nearestLerp_gradIntLanes (W := 8) (by decide) .rgba),
    .of_compute (fun _ => rfl) (nearestLerp_gradIntLanes (W := 16) (by decide) .v4),
    .of_compute (fun _ => rfl) (nearestLerp_gradIntLanes (W := 16) (by decide) .ga),
    .of_compute (fun _ => rfl) (nearestLerp_gradIntLanes (W := 16) (by decide) .rgb),
    .of_compute (fun _ => rfl) (nearestLerp_gradIntLanes (W := 16) (by decide) .rgba)⟩

/-! ### ADD on integers (R217) -/

theorem covW_full {W : ℕ} (hW : W ∈ [8, 16]) : covW W 255 = maxW W := by
  simp only [List.mem_cons, List.not_mem_nil, or_false] at hW
  rcases hW with rfl | rfl <;> rfl

/-- R217 adds B itself at full coverage, which is B scaled by it. -/
theorem scaledByCover_eq {W b cover : ℕ} (hW : W ∈ [8, 16]) (hb : b ≤ maxW W) (hcover : cover ≤ maxW 8) :
    (if cover = 255 then b else multCoverW W b cover) = roundedProduct W b (covW W cover) := by
  split_ifs with hfull
  · rw [hfull, covW_full hW, roundedProduct_maxW hW hb]
  · exact mulW_eq_roundedProduct (pos_of_mem_widths hW) hb (covW_le_maxW hW hcover)

theorem kCover_le_maxW (o : Operands) : kCover o ≤ maxW 8 := lin_le_maxW 8 o.k0

theorem get_addInt (W : ℕ) (sh : Shape) (o : Operands) (j : LaneIx) : Lanes.get (addInt W sh o) j =
    if isUsedLane sh j then
      (if kCover o = 255 ∧ shapeAlpha W sh o.b = maxW W then out (chan W o.b j)
      else out (min (chan W o.a j + (if kCover o = 255 then chan W o.b j else multCoverW W (chan W o.b j) (kCover o)))
        (maxW W)))
    else 0 := get_byUsed sh _ j

theorem lanesAre_addInt {W : ℕ} (hW : W ∈ [8, 16]) {sh : Shape} (o : Operands) {full : Prop} [Decidable full]
    (hfull : shapeAlpha W sh o.b = maxW W ↔ full) : LanesAre (addInt W sh o) fun j => if isUsedLane sh j = true then
      (if kCover o = 255 ∧ full then chan W o.b j
        else min (chan W o.a j + roundedProduct W (chan W o.b j) (covW W (kCover o))) (maxW W))
    else 0 := by
  intro j
  rw [get_addInt, scaledByCover_eq hW (chan_le_maxW W o.b j) (kCover_le_maxW o)]
  simp only [hfull]
  split_ifs
  · exact out_chan_toNat hW o.b j
  · exact out_toNat_of_le_maxW hW (min_le_right _ _)
  · rfl

/-- Settles O48: each form computes `addInt` of its width and shape; RGB's alpha is always the full one. -/
theorem addInt_completes : Obligations.AddInt := by
  unfold Obligations.AddInt
  exact ⟨.of_compute (fun _ => rfl) fun o => lanesAre_addInt (W := 8) (sh := .ga) (by decide) o Iff.rfl,
    .of_compute (fun _ => rfl) fun o => lanesAre_addInt (W := 8) (sh := .rgb) (by decide) o (iff_true_intro rfl),
    .of_compute (fun _ => rfl) fun o => lanesAre_addInt (W := 8) (sh := .rgba) (by decide) o Iff.rfl,
    .of_compute (fun _ => rfl) fun o => lanesAre_addInt (W := 16) (sh := .ga) (by decide) o Iff.rfl,
    .of_compute (fun _ => rfl) fun o => lanesAre_addInt (W := 16) (sh := .rgb) (by decide) o (iff_true_intro rfl),
    .of_compute (fun _ => rfl) fun o => lanesAre_addInt (W := 16) (sh := .rgba) (by decide) o Iff.rfl⟩

/-! ### PREMUL and DEMUL on binary32 (R211, R213) -/

/-- The binary32 alpha that PREMUL, DEMUL and ADD go by. -/
def shapeAlphaF (sh : Shape) (l : Lanes) : FVal := if hasAlpha sh then f32 l.l3 else fone b32

theorem isOne_iff (f : FloatFmt) (a : FVal) : isOne f a = true ↔ a = fone f := by simp [isOne]

theorem isZero_fone (f : FloatFmt) : isZero (fone f) = false := beq_false_of_ne (Nat.two_pow_pos f.unitExp).ne'

theorem premulChannelF_eq (c : Word) (al : FVal) : premulChannelF c al =
    if isZero al = true then 0 else if al = fone b32 then c else canonBits32 (fmul b32 (f32 c) al) := by
  simp only [premulChannelF, isOne_iff, mulF]

theorem demulChannelF_eq (c : Word) (al : FVal) : demulChannelF c al =
    if isZero al = true then 0 else if al = fone b32 then c
    else if aboveOne b32 (fdiv b32 (f32 c) al) = true then 0x3F800000 else canonBits32 (fdiv b32 (f32 c) al) := by
  simp only [demulChannelF, isOne_iff, saturateOne]

theorem premulChannelF_one (c : Word) : premulChannelF c (fone b32) = c := by
  rw [premulChannelF_eq, isZero_fone, if_neg Bool.false_ne_true, if_pos rfl]

theorem demulChannelF_one (c : Word) : demulChannelF c (fone b32) = c := by
  rw [demulChannelF_eq, isZero_fone, if_neg Bool.false_ne_true, if_pos rfl]

theorem get_premulF32 (sh : Shape) (o : Operands) (j : LaneIx) : Lanes.get (premulF32 sh o) j =
    if isValueLane sh j then premulChannelF (Lanes.get o.a j) (shapeAlphaF sh o.a)
    else if isAlphaLane sh j then o.a.l3 else 0 := get_byShape sh _ _ j

theorem get_demulF32 (sh : Shape) (o : Operands) (j : LaneIx) : Lanes.get (demulF32 sh o) j =
    if isValueLane sh j then demulChannelF (Lanes.get o.a j) (shapeAlphaF sh o.a)
    else if isAlphaLane sh j then o.a.l3 else 0 := get_byShape sh _ _ j

theorem shapeAlphaF_of_hasAlpha {sh : Shape} (h : hasAlpha sh = true) (l : Lanes) : shapeAlphaF sh l = f32 l.l3 := if_pos h

theorem shapeAlphaF_rgb (l : Lanes) : shapeAlphaF .rgb l = fone b32 := rfl

/-- Settles O43: each form computes `premulF32` or `demulF32` of its shape; RGB goes by alpha 1.0, which copies. -/
theorem premulDemulF32 : Obligations.PremulDemulF32 := by
  unfold Obligations.PremulDemulF32
  refine ⟨.of_compute (fun _ => rfl) fun o j => ?_, .of_compute (fun _ => rfl) fun o j => ?_,
    .of_compute (fun _ => rfl) fun o j => ?_, .of_compute (fun _ => rfl) fun o j => ?_,
    .of_compute (fun _ => rfl) fun o j => ?_, .of_compute (fun _ => rfl) fun o j => ?_⟩
  · rw [get_premulF32, premulChannelF_eq, shapeAlphaF_of_hasAlpha rfl]
  · rw [get_premulF32, shapeAlphaF_rgb, premulChannelF_one]
  · rw [get_premulF32, premulChannelF_eq, shapeAlphaF_of_hasAlpha rfl]
  · rw [get_demulF32, demulChannelF_eq, shapeAlphaF_of_hasAlpha rfl]
  · rw [get_demulF32, shapeAlphaF_rgb, demulChannelF_one]
  · rw [get_demulF32, demulChannelF_eq, shapeAlphaF_of_hasAlpha rfl]

/-! ### GRAD and ADD on binary32 (R216, R218) -/

theorem get_gradF32Lanes (sh : Shape) (o : Operands) (j : LaneIx) : Lanes.get (gradF32Lanes sh o) j =
    if isUsedLane sh j = true then
      canonBits32 (lerpF (f32 (Lanes.get o.a j)) (f32 (Lanes.get o.b j)) (gradF32 (kF64 o)))
    else 0 := get_byUsed sh _ j

/-- Settles O47: each form computes `gradF32Lanes` of its shape. -/
theorem gradF32Completes : Obligations.GradF32Completes := by
  unfold Obligations.GradF32Completes
  exact ⟨.of_compute (fun _ => rfl) (get_gradF32Lanes .v4), .of_compute (fun _ => rfl) (get_gradF32Lanes .ga),
    .of_compute (fun _ => rfl) (get_gradF32Lanes .rgb), .of_compute (fun _ => rfl) (get_gradF32Lanes .rgba)⟩

theorem get_addF32 {sh : Shape} (o : Operands) {full : Prop} [Decidable full] (hfull : shapeAlphaF sh o.b = fone b32 ↔ full)
    (j : LaneIx) : Lanes.get (addF32 sh o) j = if isUsedLane sh j = true then
      (if kCover o = 255 ∧ full then Lanes.get o.b j
        else saturateOne (fadd b32 (f32 (Lanes.get o.a j))
          (if kCover o = 255 then f32 (Lanes.get o.b j) else mulF (f32 (Lanes.get o.b j)) (covF (kCover o)))))
    else 0 := by
  rw [addF32, ← shapeAlphaF, get_byUsed]
  simp only [isOne_iff, hfull]

/-- Settles O49: each form computes `addF32` of its shape; RGB's alpha is always 1.0. -/
theorem addF32Completes : Obligations.AddF32Completes := by
  unfold Obligations.AddF32Completes
  exact ⟨.of_compute (fun _ => rfl) fun o => get_addF32 (sh := .ga) o Iff.rfl,
    .of_compute (fun _ => rfl) fun o => get_addF32 (sh := .rgb) o (iff_true_intro rfl),
    .of_compute (fun _ => rfl) fun o => get_addF32 (sh := .rgba) o Iff.rfl⟩

end Sys2Proof.Machine

/-! SUPPORT. The gamma commands of 43_gamma.md R250-R257: GDIR, GINV, GDIR16 and GINV16 complete with the provider's values,
and what they give where the provider is the identity. -/

namespace Sys2Proof.Machine

/-! ### Bits 7..0 of a lane -/

theorem toNat_and_0xFF (w : Word) : (w &&& 0xFF).toNat = w.toNat % 2 ^ 8 := by
  rw [BitVec.toNat_and]
  exact Nat.and_two_pow_sub_one_eq_mod w.toNat 8

/-- `Out(Lin(x))` at U8 is the mask of bits 7..0. -/
theorem out_lin_eq_and (w : Word) : out (lin 8 w) = w &&& 0xFF := by
  apply BitVec.eq_of_toNat_eq
  rw [toNat_and_0xFF, out_toNat _ (by unfold lin; omega), lin]

theorem setWidth_extractLsb'_eq_and (w : Word) : (w.extractLsb' 0 8).setWidth 32 = w &&& 0xFF := by
  apply BitVec.eq_of_toNat_eq
  rw [toNat_and_0xFF, BitVec.toNat_setWidth_of_le (by decide), BitVec.extractLsb'_toNat, Nat.shiftRight_zero]

/-- What an identity provider gives for bits 7..0, cut to 8 bits again, is the mask of those bits. -/
theorem setWidth_extractLsb'_and_eq_and (w : Word) : (w.extractLsb' 0 8).setWidth 32 &&& 0xFF = w &&& 0xFF := by
  rw [setWidth_extractLsb'_eq_and, BitVec.and_assoc, BitVec.and_self]

/-! ### GDIR and GINV (R251-R254) -/

section Colours

variable (sh : Shape) (g : Config.GammaProvider) (o : Operands) (j : LaneIx)

theorem get_gdirU8 : Lanes.get (gdirU8 sh g o) j =
    if isValueLane sh j then g.dir8 ((Lanes.get o.a j).extractLsb' 0 8) &&& 0xFF
    else if isAlphaLane sh j then o.a.l3 &&& 0xFF else 0 := by
  rw [gdirU8, get_byShape, out_lin_eq_and]

theorem get_ginvU8 : Lanes.get (ginvU8 sh g o) j =
    if isValueLane sh j then g.inv8 ((Lanes.get o.a j).extractLsb' 0 8) &&& 0xFF
    else if isAlphaLane sh j then o.a.l3 &&& 0xFF else 0 := by
  rw [ginvU8, get_byShape, out_lin_eq_and]

theorem get_gdirF32 : Lanes.get (gdirF32 sh g o) j =
    if isValueLane sh j then g.dirF (Lanes.get o.a j) else if isAlphaLane sh j then o.a.l3 else 0 :=
  get_byShape sh _ _ j

theorem get_ginvF32 : Lanes.get (ginvF32 sh g o) j =
    if isValueLane sh j then g.invF (Lanes.get o.a j) else if isAlphaLane sh j then o.a.l3 else 0 :=
  get_byShape sh _ _ j

end Colours

/-- Settles O50: each form computes the function of its shape on the attached provider. -/
theorem gammaColours : Obligations.GammaColours := by
  unfold Obligations.GammaColours
  exact ⟨.of_computeGamma (fun _ => rfl) (get_gdirU8 .v4 _), .of_computeGamma (fun _ => rfl) (get_gdirU8 .ga _),
    .of_computeGamma (fun _ => rfl) (get_gdirU8 .rgb _), .of_computeGamma (fun _ => rfl) (get_gdirU8 .rgba _),
    .of_computeGamma (fun _ => rfl) (get_ginvU8 .v4 _), .of_computeGamma (fun _ => rfl) (get_ginvU8 .ga _),
    .of_computeGamma (fun _ => rfl) (get_ginvU8 .rgb _), .of_computeGamma (fun _ => rfl) (get_ginvU8 .rgba _),
    .of_computeGamma (fun _ => rfl) (get_gdirF32 .v4 _), .of_computeGamma (fun _ => rfl) (get_gdirF32 .ga _),
    .of_computeGamma (fun _ => rfl) (get_gdirF32 .rgb _), .of_computeGamma (fun _ => rfl) (get_gdirF32 .rgba _),
    .of_computeGamma (fun _ => rfl) (get_ginvF32 .v4 _), .of_computeGamma (fun _ => rfl) (get_ginvF32 .ga _),
    .of_computeGamma (fun _ => rfl) (get_ginvF32 .rgb _), .of_computeGamma (fun _ => rfl) (get_ginvF32 .rgba _)⟩

/-! ### GDIR16 and GINV16 (R255, R256) -/

theorem get_gdir16Lanes (g : Config.GammaProvider) (o : Operands) (j : LaneIx) :
    Lanes.get (gdir16Lanes g o) j = g.dir16 ((Lanes.get o.a j).extractLsb' 0 8) &&& 0xFFFF := Lanes.get_ofFn _ j

theorem get_ginv16Lanes (g : Config.GammaProvider) (o : Operands) (j : LaneIx) :
    Lanes.get (ginv16Lanes g o) j = g.inv16 ((Lanes.get o.a j).extractLsb' 0 16) &&& 0xFF := Lanes.get_ofFn _ j

/-- Settles O51: both commands look every lane up. -/
theorem gammaRawLookups : Obligations.GammaRawLookups := by
  unfold Obligations.GammaRawLookups
  exact ⟨.of_computeGamma (fun _ => rfl) (get_gdir16Lanes _), .of_computeGamma (fun _ => rfl) (get_ginv16Lanes _)⟩

/-! ### An identity provider (R257) -/

theorem eq_three_of_isAlphaLane {sh : Shape} {j : LaneIx} (h : isAlphaLane sh j = true) : j = 3 := by
  cases sh with
  | v4 | rgb => cases h
  | ga | rgba => exact eq_of_beq h

/-- Where the alpha lane is treated as the value lanes are, every used lane is treated alike. -/
theorem byShape_lane_of_isUsedLane {sh : Shape} {j : LaneIx} (f : Word → Word) (l : Lanes) (h : isUsedLane sh j = true) :
    (if isValueLane sh j then f (Lanes.get l j) else if isAlphaLane sh j then f l.l3 else 0) = f (Lanes.get l j) := by
  rcases hv : isValueLane sh j with _ | _
  · have ha : isAlphaLane sh j = true := by simpa [isUsedLane, hv] using h
    obtain rfl := eq_three_of_isAlphaLane ha
    simp [ha, Lanes.get]
  · rfl

theorem mul_257_lt (v : BitVec 8) : v.toNat * 257 < 2 ^ 16 := by
  have hv := v.isLt
  omega

/-- R257's dir16 of a byte v is 257 * v, which fits 16 bits, so its mask keeps it. -/
theorem toNat_spread_byte (v : BitVec 8) : (v.setWidth 32 * 257 &&& 0xFFFF : Word).toNat = v.toNat * 257 := by
  calc (v.setWidth 32 * 257 &&& 0xFFFF : Word).toNat
      = (v.setWidth 32 * 257 : Word).toNat % 2 ^ 16 := Nat.and_two_pow_sub_one_eq_mod _ 16
    _ = v.toNat * 257 % 2 ^ 32 % 2 ^ 16 := by rw [BitVec.toNat_mul, BitVec.toNat_setWidth_of_le (by decide)]; rfl
    _ = v.toNat * 257 := by rw [Nat.mod_mod_of_dvd _ (by decide), Nat.mod_eq_of_lt (mul_257_lt v)]

/-- R257's inv16 takes bits 15..8, which in 257 * v are v again. -/
theorem high_byte_of_spread_byte (v : BitVec 8) :
    (((v.setWidth 32 * 257 &&& 0xFFFF : Word).extractLsb' 0 16) >>> 8).setWidth 32 = v.setWidth 32 := by
  have hv := v.isLt
  apply BitVec.eq_of_toNat_eq
  rw [BitVec.toNat_setWidth_of_le (by decide), BitVec.toNat_setWidth_of_le (by decide), BitVec.toNat_ushiftRight,
    BitVec.extractLsb'_toNat, toNat_spread_byte, Nat.shiftRight_zero, Nat.mod_eq_of_lt (mul_257_lt v),
    Nat.shiftRight_eq_div_pow]
  omega

/-- GINV16 undoes GDIR16 where the provider's 16-bit functions are those of R257. -/
theorem get_ginv16Lanes_gdir16Lanes {g : Config.GammaProvider} (hdir : ∀ v, g.dir16 v = v.setWidth 32 * 257)
    (hinv : ∀ v, g.inv16 v = (v >>> 8).setWidth 32) (o : Operands) (j : LaneIx) :
    Lanes.get (ginv16Lanes g { o with a := gdir16Lanes g o }) j = Lanes.get o.a j &&& 0xFF := by
  rw [get_ginv16Lanes, get_gdir16Lanes, hdir, hinv, high_byte_of_spread_byte, setWidth_extractLsb'_and_eq_and]

/-- Settles O52: on an identity provider each command treats its alpha lane as its value lanes. -/
theorem gammaIdentityProvider : Obligations.GammaIdentityProvider := by
  unfold Obligations.GammaIdentityProvider
  intro g sh o hdir8 hinv8 hdirF hinvF hdir16 hinv16 j
  refine ⟨fun hused => ?_, get_ginv16Lanes_gdir16Lanes hdir16 hinv16 o j⟩
  have masked := byShape_lane_of_isUsedLane (· &&& 0xFF) o.a hused
  have copied := byShape_lane_of_isUsedLane id o.a hused
  refine ⟨?_, ?_, ?_, ?_⟩
  · rw [get_gdirU8, hdir8, setWidth_extractLsb'_and_eq_and]
    exact masked
  · rw [get_ginvU8, hinv8, setWidth_extractLsb'_and_eq_and]
    exact masked
  · rw [get_gdirF32, hdirF]
    exact copied
  · rw [get_ginvF32, hinvF]
    exact copied

end Sys2Proof.Machine

/-! SUPPORT. Issuing a command word (60_exceptions.md R270-R275): an illegal word is recorded and does nothing else, a legal
one runs its command, which touches no error register. -/

namespace Sys2Proof.Machine

/-! ### Issuing a word -/

theorem issueCommand_of_decode_instr {w : Word} {i : Instr} (h : decode w = .instr i) (m c : ℕ) (s : State) :
    issueCommand m c w s = exec i (s.withIssue ⟨m, c, w⟩) := by
  rw [issueCommand, h]

theorem issueCommand_of_decode_illegal {w : Word} {e : DecodeError} (h : decode w = .illegal e) (m c : ℕ) (s : State) :
    issueCommand m c w s = .next (s.withIssue ⟨m, c, w⟩).illegalCommand := by
  rw [issueCommand, h]

theorem performAccess_of_cmdContext {a : Access} {s : State} {w : Word} {c : ℕ} (had : a.admitted = true)
    (hk : a.kind = .write w) (hc : s.cmdContext a.off = some c) : performAccess a s = issueCommand a.master c w s := by
  simp [performAccess, had, hk, hc]

/-- Settles O16: the step performs the access, the access issues the word, and the word is decoded. -/
theorem stepRunsDecodedCommand : Obligations.StepRunsDecodedCommand := by
  unfold Obligations.StepRunsDecodedCommand
  intro s a rest w c i htake had hk hc hd
  have hcmd : (s.sequencerCycle.withInputs rest).cmdContext a.off = some c :=
    (State.cmdContext_congr (by simp) a.off).trans hc
  calc step s = performAccess a (s.sequencerCycle.withInputs rest) := htake.step_eq
    _ = issueCommand a.master c w (s.sequencerCycle.withInputs rest) := performAccess_of_cmdContext had hk hcmd
    _ = exec i ((s.sequencerCycle.withInputs rest).withIssue ⟨a.master, c, w⟩) := issueCommand_of_decode_instr hd ..

/-! ### An illegal word (R271, R272) -/

/-- A word is illegal because the decoder rejects it or because its command lacks the provider (30_encoding.md R108). -/
theorem State.legalWord_eq_false {s : State} {w : Word} (h : s.legalWord w = false) : (∃ e, decode w = .illegal e) ∨
    ∃ i, decode w = .instr i ∧ opNeedsProvider (opFmtShape i).1 = true ∧ s.gammaPresent = false := by
  cases hd : decode w with
  | illegal e => exact .inl ⟨e, rfl⟩
  | instr i =>
    rw [State.legalWord, wellFormed_of_decode_instr s.gammaPresent hd, Bool.or_eq_false_iff, Bool.not_eq_false'] at h
    obtain ⟨hg, hi⟩ := h
    exact .inr ⟨i, rfl, hi, hg⟩

/-- The commands that need the provider are the gamma commands, and each is illegal without it (43_gamma.md R250). -/
theorem exec_of_no_provider {i : Instr} (hi : opNeedsProvider (opFmtShape i).1 = true) {s : State}
    (hg : s.gammaPresent = false) : exec i s = .next s.illegalCommand := by
  cases i <;> cases hi <;> exact computeGamma_absent _ s hg

theorem issueCommand_of_illegal {s : State} {w : Word} (h : s.legalWord w = false) (m c : ℕ) :
    issueCommand m c w s = .next (s.withIssue ⟨m, c, w⟩).illegalCommand := by
  rcases State.legalWord_eq_false h with ⟨e, hd⟩ | ⟨i, hd, hi, hg⟩
  · exact issueCommand_of_decode_illegal hd m c s
  · exact (issueCommand_of_decode_instr hd m c s).trans (exec_of_no_provider hi hg)

/-- Settles O13: the word is recorded in the issuing context, and the rest is the frame of an IllegalCommand. -/
theorem illegalWordRecorded : Obligations.IllegalWordRecorded := by
  unfold Obligations.IllegalWordRecorded
  intro s m c w hc hw
  have hframe := (s.withIssue ⟨m, c, w⟩).illegalCommand_frame hc
  exact ⟨_, issueCommand_of_illegal hw m c, (s.withIssue ⟨m, c, w⟩).illegalCommand_cur hc, hframe.others, hframe.count,
    rfl, rfl, rfl, rfl, rfl, rfl⟩

/-! ### A legal word (R270, R275) -/

/-- The commands a legal word stands for have the provider they need. -/
theorem State.decode_of_legalWord {s : State} {w : Word} (h : s.legalWord w = true) :
    ∃ i, decode w = .instr i ∧ (opNeedsProvider (opFmtShape i).1 = true → s.gammaPresent = true) := by
  obtain ⟨i, hd⟩ := decode_of_wellFormed h
  rw [State.legalWord, wellFormed_of_decode_instr s.gammaPresent hd] at h
  exact ⟨i, hd, fun hi => by simpa [hi] using h⟩

/-- Of what a command can do, only lacking its provider touches the error registers of its context. -/
theorem exec_errors {i : Instr} {s t : State} (hc : s.hasCtx s.issue.ctx = true)
    (hp : opNeedsProvider (opFmtShape i).1 = true → s.gammaPresent = true) (h : exec i s = .next t) :
    t.cur.errIll = s.cur.errIll ∧ t.cur.errcmd = s.cur.errcmd := by
  rcases exec_cases h with ⟨-, rfl⟩ | ⟨l, rfl⟩ | ⟨-, -, l, rfl⟩ | ⟨-, -, rfl⟩ | ⟨hi, hg, -⟩
  · exact ⟨rfl, rfl⟩
  · rw [State.cur_completeWrite, s.cur_writeR l hc]
    exact ⟨rfl, rfl⟩
  · have hcw : (s.writeR l).hasCtx (s.writeR l).issue.ctx = true := ((s.writeR_frame l hc).hasCtx _).trans hc
    rw [State.cur_completeWrite, (s.writeR l).cur_setReady hcw, s.cur_writeR l hc]
    exact ⟨rfl, rfl⟩
  · have hcs : s.startSequencer.hasCtx s.startSequencer.issue.ctx = true := by
      rwa [s.startSequencer_frame.hasCtx, s.startSequencer_issue]
    rw [s.startSequencer.cur_waitLut i hcs, s.cur_startSequencer]
    exact ⟨rfl, rfl⟩
  · cases hg.symm.trans (hp hi)

/-- Settles O14: `exec_errors` in the issuing context; a command leaves the other contexts. -/
theorem legalWordRaisesNothing : Obligations.LegalWordRaisesNothing := by
  unfold Obligations.LegalWordRaisesNothing
  intro s m c w hc hw
  obtain ⟨i, hd, hp⟩ := State.decode_of_legalWord hw
  obtain ⟨t, ht⟩ := exec_next i (s.withIssue ⟨m, c, w⟩)
  refine ⟨t, (issueCommand_of_decode_instr hd m c s).trans ht, fun d => ?_⟩
  have hframe := execFrame i (s.withIssue ⟨m, c, w⟩) t hc ht
  by_cases hdc : d = c
  · have hcur : t.cur = t.ctx d := by rw [State.cur, hframe.issue, State.withIssue_issue, hdc]
    subst hdc
    rw [← hcur]
    exact exec_errors (s := s.withIssue ⟨m, d, w⟩) hc hp ht
  · rw [hframe.others d hdc]
    exact ⟨rfl, rfl⟩

end Sys2Proof.Machine

/-! SUPPORT. Reset (70_reset_and_hazards.md R300-R302): the reset state, its invariant, and what a reset input leaves and
answers. -/

namespace Sys2Proof.Machine

/-! ### The reset state -/

theorem nCtx_pos : 1 ≤ Config.nCtx := Nat.succ_pos _

theorem nCtx_le : Config.nCtx ≤ 15 := Config.extraContexts.isLt

@[simp] theorem State.reset_length : State.reset.contexts.length = Config.nCtx := List.length_replicate

theorem State.eq_of_mem_reset {x : Context} (h : x ∈ State.reset.contexts) : x = Context.reset :=
  List.eq_of_mem_replicate h

/-- Settles O1: N_CTX is one more than a number below 15, and each context is `Context.reset`. -/
theorem resetState : Obligations.ResetState := by
  unfold Obligations.ResetState
  refine ⟨State.reset_length, nCtx_pos, nCtx_le, fun x hx => ?_, rfl, rfl⟩
  obtain rfl := State.eq_of_mem_reset hx
  exact ⟨rfl, rfl, rfl, rfl, rfl, rfl, rfl, rfl⟩

/-- No error is recorded in a context after reset. -/
theorem ErrOk.reset (g : Bool) : ErrOk g Context.reset := ⟨.inl rfl, nofun⟩

/-- Settles O59: LSTATE is IDLE, and no context waits or has an error recorded. -/
theorem resetHasInvariant : Obligations.ResetHasInvariant where
  count := by rw [State.reset_length]; exact ⟨nCtx_pos, nCtx_le⟩
  issued := by rw [State.hasCtx_iff, State.reset_length]; exact nCtx_pos
  idle _ x hx := by rw [State.eq_of_mem_reset hx]; rfl
  busy := nofun
  valid := nofun
  err x hx := by rw [State.eq_of_mem_reset hx]; exact ErrOk.reset _
  wait x hx := by rw [State.eq_of_mem_reset hx]; exact WaitOk.of_ready rfl

/-! ### The reset input -/

/-- The step takes a picked reset, whatever waits or runs: of the cases of a step only that one picks a reset. -/
theorem step_of_pick_reset {s : State} {rest : List Input} (h : s.pick = some (.reset, rest)) :
    step s = .next (s.withInputs rest).resetInput := by
  rcases step_cases s with ⟨rest', hp, hs⟩ | ⟨c, m, i, hp, -⟩ | ⟨a, rest', hp, -⟩ | ⟨hp, -, -⟩
  · obtain rfl : rest = rest' := by simpa using h.symm.trans hp
    exact hs
  · exact absurd h (hp rest)
  · cases h.symm.trans hp.1
  · cases h.symm.trans hp

/-- Every context after a reset input is as after reset; so is what an absent one reads as. -/
theorem State.ctx_resetInput (s : State) (c : Nat) : s.resetInput.ctx c = Context.reset := by
  rw [State.ctx, State.resetInput_contexts, List.getD_eq_getElem?_getD, List.getElem?_map]
  cases s.contexts[c]? with
  | none => rfl
  | some x => rfl

theorem Context.heldMaster_eq_some {x : Context} {m : Nat} : x.heldMaster = some m ↔ ∃ i o, x.cstate = .waitLut m i o := by
  cases hx : x.cstate with
  | ready => simp [Context.heldMaster, hx]
  | waitLut m' i o => simp [Context.heldMaster, hx]

/-- However the bus ends an abandoned CMD write, it answers only the master of that write. -/
theorem abandonedAnswer_eq_some {n m : Nat} {r : Response} (h : abandonedAnswer n m = some r) :
    r = .writeDone m ∨ r = .writeFailed m := by
  unfold abandonedAnswer at h
  split at h
  case h_1 => cases h
  case h_2 => exact .inl (Option.some.inj h).symm
  case h_3 => exact .inr (Option.some.inj h).symm

theorem State.exists_ctx_eq {s : State} {x : Context} (h : x ∈ s.contexts) : ∃ c, s.ctx c = x := by
  obtain ⟨c, hc⟩ := List.mem_iff_getElem?.1 h
  exact ⟨c, by simp [State.ctx, hc]⟩

/-- Each answer a reset gives goes to the master of a command that was waiting (R302). -/
theorem State.mem_abandonedAnswers {s : State} {r : Response} (h : r ∈ s.abandonedAnswers) :
    ∃ c m i o, (s.ctx c).cstate = .waitLut m i o ∧ (r = .writeDone m ∨ r = .writeFailed m) := by
  obtain ⟨m, hm, hr⟩ := List.mem_filterMap.1 h
  obtain ⟨x, hx, hxm⟩ := List.mem_filterMap.1 hm
  obtain ⟨c, rfl⟩ := State.exists_ctx_eq hx
  obtain ⟨i, o, hw⟩ := Context.heldMaster_eq_some.1 hxm
  exact ⟨c, m, i, o, hw, abandonedAnswer_eq_some hr⟩

/-- Settles O2: the step is the reset input (`step_of_pick_reset`), whose answers are `State.abandonedAnswers`. -/
theorem resetInputAbandons : Obligations.ResetInputAbandons := by
  unfold Obligations.ResetInputAbandons
  intro s rest hp
  exact ⟨(s.withInputs rest).resetInput, step_of_pick_reset hp, by simp, State.ctx_resetInput _, rfl, rfl, rfl,
    s.abandonedAnswers, rfl, fun _ => State.mem_abandonedAnswers⟩

end Sys2Proof.Machine
